-- ==== Sys2Proof/Word.lean ====
section
/-! DEFINITION. The word types of the machine and their plainest arithmetic (spec 00_scope R8). -/

namespace Sys2Proof

/-- A byte, 8 bits (R8). -/
abbrev Byte := BitVec 8

/-- A word, 16 bits (R8). -/
abbrev Word := BitVec 16

/-- The content of one 8087 stack register: a temporary real, 80 bits (R55, R422). -/
abbrev TReal := BitVec 80

/-- The operand width the W bit selects (R113): `byte` is W = 0, `word` is W = 1. -/
inductive Width
  | byte
  | word
  deriving DecidableEq, Repr

/-- The number N of bits of an operand (R240). -/
abbrev Width.bits : Width → Nat
  | .byte => 8
  | .word => 16

/-- The number of bytes of an operand, which is also the `step` of the string instructions (R121, R330). -/
def Width.bytes : Width → Word
  | .byte => 1
  | .word => 2

/-- Bits 7 to 0 of a word (R21, R74). -/
def lowByte (v : Word) : Byte := v.extractLsb' 0 8

/-- Bits 15 to 8 of a word (R21, R74). -/
def highByte (v : Word) : Byte := v.extractLsb' 8 8

/-- `hi ++ lo`, the high part first (R8). -/
def joinBytes (hi lo : Byte) : Word := hi ++ lo

/-- Sign extension of a byte to a word (R8). -/
def sext16 (b : Byte) : Word := b.signExtend 16

/-- Zero extension of a byte to a word (R8). -/
def zext16 (b : Byte) : Word := b.setWidth 16

end Sys2Proof
end

