-- ==== Sys2Proof/Syntax.lean ====
section
/-! DEFINITION. The instructions: operand syntax, and one constructor of `Instr` per row of
spec/opcode_table.json, in the table's order (four rows without operands stand last: the compiler numbers
only so many constructors with fields). -/

namespace Sys2Proof

/-- A three-bit field of an encoding: a register number (Table F.1, R20), an opcode extension (R115), an
8087 stack register number, or three bits of a coprocessor opcode (R123). -/
inductive Bits3
  | b000
  | b001
  | b010
  | b011
  | b100
  | b101
  | b110
  | b111
  deriving DecidableEq, Repr

/-- A segment register (Table F.2, R27). -/
inductive SReg
  | es
  | cs
  | ss
  | ds
  deriving DecidableEq, Repr

/-- The D bit (R114): whether the register in REG is the source (`toRm`, D = 0) or the destination
(`toReg`, D = 1). -/
inductive Dir
  | toRm
  | toReg
  deriving DecidableEq, Repr

/-- The part of the instruction set a row of the opcode table belongs to (R1, R131). -/
inductive IsaPart
  | base8086
  | fpu8087
  | ext80286
  | ext80386
  deriving DecidableEq, Repr

/-- The v bit of the shifts and rotates (R123): count 1 (v = 0) or count in CL (v = 1). -/
inductive ShiftCount
  | one
  | cl
  deriving DecidableEq, Repr

/-- The base and index part of an effective address, one per R/M value (R118). -/
inductive EaBase
  | bxSi
  | bxDi
  | bpSi
  | bpDi
  | si
  | di
  | bp
  | bx
  deriving DecidableEq, Repr

/-- The operand the MOD and R/M fields name (R117, R118). -/
inductive Rm
  /-- MOD = 11: the register numbered by R/M. -/
  | reg (n : Bits3)
  /-- MOD = 00, R/M = 110: the direct address. -/
  | direct (d : Word)
  /-- MOD = 00 otherwise: no displacement. -/
  | base (b : EaBase)
  /-- MOD = 01: an 8-bit displacement. -/
  | disp8 (b : EaBase) (d : Byte)
  /-- MOD = 10: a 16-bit displacement. -/
  | disp16 (b : EaBase) (d : Word)
  deriving DecidableEq, Repr

/-- One constructor per row of the opcode table, with the fields the row's encoding leaves open. `w` is the
W bit, `d` the D bit, `r` the REG register, `rm` the MOD and R/M operand, `imm` the immediate. -/
inductive Instr
  /-- ADD: memory or register with register (R245). -/
  | addRm (d : Dir) (w : Width) (rm : Rm) (r : Bits3)
  /-- ADD: immediate to accumulator (R245). -/
  | addAcc (w : Width) (imm : BitVec w.bits)
  /-- ADD: immediate to memory or register (R245). -/
  | addImm (w : Width) (rm : Rm) (imm : BitVec w.bits)
  /-- ADD: immediate to memory or register, sign-extended byte (R245). -/
  | addImmS (rm : Rm) (imm8 : Byte)
  /-- OR: memory or register with register (R292). -/
  | orRm (d : Dir) (w : Width) (rm : Rm) (r : Bits3)
  /-- OR: immediate to accumulator (R292). -/
  | orAcc (w : Width) (imm : BitVec w.bits)
  /-- OR: immediate to memory or register (R292). -/
  | orImm (w : Width) (rm : Rm) (imm : BitVec w.bits)
  /-- ADC: memory or register with register (R246). -/
  | adcRm (d : Dir) (w : Width) (rm : Rm) (r : Bits3)
  /-- ADC: immediate to accumulator (R246). -/
  | adcAcc (w : Width) (imm : BitVec w.bits)
  /-- ADC: immediate to memory or register (R246). -/
  | adcImm (w : Width) (rm : Rm) (imm : BitVec w.bits)
  /-- ADC: immediate to memory or register, sign-extended byte (R246). -/
  | adcImmS (rm : Rm) (imm8 : Byte)
  /-- SBB: memory or register with register (R248). -/
  | sbbRm (d : Dir) (w : Width) (rm : Rm) (r : Bits3)
  /-- SBB: immediate to accumulator (R248). -/
  | sbbAcc (w : Width) (imm : BitVec w.bits)
  /-- SBB: immediate to memory or register (R248). -/
  | sbbImm (w : Width) (rm : Rm) (imm : BitVec w.bits)
  /-- SBB: immediate to memory or register, sign-extended byte (R248). -/
  | sbbImmS (rm : Rm) (imm8 : Byte)
  /-- AND: memory or register with register (R291). -/
  | andRm (d : Dir) (w : Width) (rm : Rm) (r : Bits3)
  /-- AND: immediate to accumulator (R291). -/
  | andAcc (w : Width) (imm : BitVec w.bits)
  /-- AND: immediate to memory or register (R291). -/
  | andImm (w : Width) (rm : Rm) (imm : BitVec w.bits)
  /-- SUB: memory or register with register (R247). -/
  | subRm (d : Dir) (w : Width) (rm : Rm) (r : Bits3)
  /-- SUB: immediate to accumulator (R247). -/
  | subAcc (w : Width) (imm : BitVec w.bits)
  /-- SUB: immediate to memory or register (R247). -/
  | subImm (w : Width) (rm : Rm) (imm : BitVec w.bits)
  /-- SUB: immediate to memory or register, sign-extended byte (R247). -/
  | subImmS (rm : Rm) (imm8 : Byte)
  /-- XOR: memory or register with register (R293). -/
  | xorRm (d : Dir) (w : Width) (rm : Rm) (r : Bits3)
  /-- XOR: immediate to accumulator (R293). -/
  | xorAcc (w : Width) (imm : BitVec w.bits)
  /-- XOR: immediate to memory or register (R293). -/
  | xorImm (w : Width) (rm : Rm) (imm : BitVec w.bits)
  /-- CMP: memory or register with register (R249). -/
  | cmpRm (d : Dir) (w : Width) (rm : Rm) (r : Bits3)
  /-- CMP: immediate to accumulator (R249). -/
  | cmpAcc (w : Width) (imm : BitVec w.bits)
  /-- CMP: immediate to memory or register (R249). -/
  | cmpImm (w : Width) (rm : Rm) (imm : BitVec w.bits)
  /-- CMP: immediate to memory or register, sign-extended byte (R249). -/
  | cmpImmS (rm : Rm) (imm8 : Byte)
  /-- PUSH: segment register ES (R208). -/
  | pushEs
  /-- POP: segment register ES (R210). -/
  | popEs
  /-- PUSH: segment register CS (R208). -/
  | pushCs
  /-- PUSH: segment register SS (R208). -/
  | pushSs
  /-- POP: segment register SS (R210). -/
  | popSs
  /-- PUSH: segment register DS (R208). -/
  | pushDs
  /-- POP: segment register DS (R210). -/
  | popDs
  /-- SEG_ES: segment override prefix (R413). -/
  | segEs
  /-- SEG_CS: segment override prefix (R413). -/
  | segCs
  /-- SEG_SS: segment override prefix (R413). -/
  | segSs
  /-- SEG_DS: segment override prefix (R413). -/
  | segDs
  /-- DAA (R267). -/
  | daa
  /-- DAS (R268). -/
  | das
  /-- AAA (R263). -/
  | aaa
  /-- AAS (R264). -/
  | aas
  /-- INC: register (word) (R250). -/
  | incReg (r : Bits3)
  /-- DEC: register (word) (R251). -/
  | decReg (r : Bits3)
  /-- PUSH: register (word) (R208). -/
  | pushReg (r : Bits3)
  /-- POP: register (word) (R210). -/
  | popReg (r : Bits3)
  /-- JO: short-label (R366). -/
  | jo (disp8 : Byte)
  /-- JNO: short-label (R366). -/
  | jno (disp8 : Byte)
  /-- JB_JNAE_JC: short-label (R366). -/
  | jb (disp8 : Byte)
  /-- JAE_JNB_JNC: short-label (R366). -/
  | jae (disp8 : Byte)
  /-- JE_JZ: short-label (R366). -/
  | je (disp8 : Byte)
  /-- JNE_JNZ: short-label (R366). -/
  | jne (disp8 : Byte)
  /-- JBE_JNA: short-label (R366). -/
  | jbe (disp8 : Byte)
  /-- JA_JNBE: short-label (R366). -/
  | ja (disp8 : Byte)
  /-- JS: short-label (R366). -/
  | js (disp8 : Byte)
  /-- JNS: short-label (R366). -/
  | jns (disp8 : Byte)
  /-- JP_JPE: short-label (R366). -/
  | jp (disp8 : Byte)
  /-- JNP_JPO: short-label (R366). -/
  | jnp (disp8 : Byte)
  /-- JL_JNGE: short-label (R366). -/
  | jl (disp8 : Byte)
  /-- JGE_JNL: short-label (R366). -/
  | jge (disp8 : Byte)
  /-- JLE_JNG: short-label (R366). -/
  | jle (disp8 : Byte)
  /-- JG_JNLE: short-label (R366). -/
  | jg (disp8 : Byte)
  /-- TEST: memory or register with register (R295). -/
  | testRm (w : Width) (rm : Rm) (r : Bits3)
  /-- XCHG: memory or register with register (R216). -/
  | xchgRm (w : Width) (rm : Rm) (r : Bits3)
  /-- MOV: to register from memory or register / to memory from register (R201). -/
  | movRm (d : Dir) (w : Width) (rm : Rm) (r : Bits3)
  /-- MOV: to memory or register from segment register (R203). -/
  | movRmSeg (rm : Rm) (sr : SReg)
  /-- LEA (R206). -/
  | lea (r : Bits3) (rm : Rm)
  /-- MOV: to segment register from memory or register (R203). -/
  | movSegRm (sr : SReg) (rm : Rm)
  /-- POP: memory or register (R210). -/
  | popRm (rm : Rm)
  /-- NOP (R411). -/
  | nop
  /-- XCHG: register with accumulator (R216). -/
  | xchgAcc (r : Bits3)
  /-- CBW (R260). -/
  | cbw
  /-- CWD (R261). -/
  | cwd
  /-- CALL: intersegment direct (R354). -/
  | callFar (off : Word) (sg : Word)
  /-- WAIT (R408). -/
  | wait
  /-- PUSHF (R212). -/
  | pushf
  /-- POPF (R213). -/
  | popf
  /-- SAHF (R215). -/
  | sahf
  /-- LAHF (R214). -/
  | lahf
  /-- MOV: to accumulator from memory (R202). -/
  | movAccMem (w : Width) (addr : Word)
  /-- MOV: to memory from accumulator (R202). -/
  | movMemAcc (w : Width) (addr : Word)
  /-- MOVS: MOVSB (w=0) / MOVSW (w=1) (R332). -/
  | movs (w : Width)
  /-- CMPS: CMPSB (w=0) / CMPSW (w=1) (R333). -/
  | cmps (w : Width)
  /-- STOS: STOSB (w=0) / STOSW (w=1) (R336). -/
  | stos (w : Width)
  /-- LODS: LODSB (w=0) / LODSW (w=1) (R335). -/
  | lods (w : Width)
  /-- SCAS: SCASB (w=0) / SCASW (w=1) (R334). -/
  | scas (w : Width)
  /-- TEST: immediate with accumulator (R295). -/
  | testAcc (w : Width) (imm : BitVec w.bits)
  /-- MOV: to register from immediate (R204). -/
  | movRegImm (w : Width) (r : Bits3) (imm : BitVec w.bits)
  /-- RET: intrasegment with pop value (R357). -/
  | retPop (pop : Word)
  /-- RET: intrasegment (R356). -/
  | ret
  /-- LES (R207). -/
  | les (r : Bits3) (rm : Rm)
  /-- LDS (R207). -/
  | lds (r : Bits3) (rm : Rm)
  /-- MOV: to memory or register from immediate (R204). -/
  | movRmImm (w : Width) (rm : Rm) (imm : BitVec w.bits)
  /-- RET: intersegment with pop value (R359). -/
  | retFarPop (pop : Word)
  /-- RET: intersegment (R358). -/
  | retFar
  /-- INT: type 3 (R373). -/
  | int3
  /-- INT: other types (R372). -/
  | intN (t : Byte)
  /-- INTO (R374). -/
  | into
  /-- IRET (R375). -/
  | iret
  /-- ROL: destination, 1 (v=0) / destination, CL (v=1) (R312). -/
  | rol (v : ShiftCount) (w : Width) (rm : Rm)
  /-- ROR: destination, 1 (v=0) / destination, CL (v=1) (R313). -/
  | ror (v : ShiftCount) (w : Width) (rm : Rm)
  /-- RCL: destination, 1 (v=0) / destination, CL (v=1) (R310). -/
  | rcl (v : ShiftCount) (w : Width) (rm : Rm)
  /-- RCR: destination, 1 (v=0) / destination, CL (v=1) (R311). -/
  | rcr (v : ShiftCount) (w : Width) (rm : Rm)
  /-- SAL_SHL: destination, 1 (v=0) / destination, CL (v=1) (R320). -/
  | shl (v : ShiftCount) (w : Width) (rm : Rm)
  /-- SHR: destination, 1 (v=0) / destination, CL (v=1) (R322). -/
  | shr (v : ShiftCount) (w : Width) (rm : Rm)
  /-- SAR: destination, 1 (v=0) / destination, CL (v=1) (R321). -/
  | sar (v : ShiftCount) (w : Width) (rm : Rm)
  /-- AAM (R266). -/
  | aam
  /-- AAD (R265). -/
  | aad
  /-- XLAT (R205). -/
  | xlat
  /-- ESC: external-opcode, source (R409). -/
  | esc (x1 : Bits3) (x2 : Bits3) (rm : Rm)
  /-- LOOPNE_LOOPNZ: short-label (R370). -/
  | loopne (disp8 : Byte)
  /-- LOOPE_LOOPZ: short-label (R369). -/
  | loope (disp8 : Byte)
  /-- LOOP: short-label (R368). -/
  | loop (disp8 : Byte)
  /-- JCXZ: short-label (R367). -/
  | jcxz (disp8 : Byte)
  /-- IN: fixed port (R218). -/
  | inFixed (w : Width) (port : Byte)
  /-- OUT: fixed port (R219). -/
  | outFixed (w : Width) (port : Byte)
  /-- CALL: intrasegment direct (R352). -/
  | callNear (disp16 : Word)
  /-- JMP: intrasegment direct (R360). -/
  | jmpNear (disp16 : Word)
  /-- JMP: intersegment direct (R362). -/
  | jmpFar (off : Word) (sg : Word)
  /-- JMP: intrasegment direct short (R361). -/
  | jmpShort (disp8 : Byte)
  /-- IN: variable port (R218). -/
  | inDx (w : Width)
  /-- OUT: variable port (R219). -/
  | outDx (w : Width)
  /-- LOCK: prefix (R410). -/
  | lock
  /-- REPNE_REPNZ: prefix (R338). -/
  | repne
  /-- REP_REPE_REPZ: prefix (R338). -/
  | rep
  /-- HLT (R407). -/
  | hlt
  /-- CMC (R404). -/
  | cmc
  /-- TEST: immediate with memory or register (R295). -/
  | testImm (w : Width) (rm : Rm) (imm : BitVec w.bits)
  /-- NOT: memory or register (R294). -/
  | not (w : Width) (rm : Rm)
  /-- NEG: memory or register (R252). -/
  | neg (w : Width) (rm : Rm)
  /-- MUL: memory or register (R254). -/
  | mul (w : Width) (rm : Rm)
  /-- IMUL: memory or register (R255). -/
  | imul (w : Width) (rm : Rm)
  /-- DIV: memory or register (R256). -/
  | div (w : Width) (rm : Rm)
  /-- IDIV: memory or register (R257). -/
  | idiv (w : Width) (rm : Rm)
  /-- CLC (R401). -/
  | clc
  /-- STC (R405). -/
  | stc
  /-- CLI (R403). -/
  | cli
  /-- STI (R412). -/
  | sti
  /-- CLD (R402). -/
  | cld
  /-- STD (R406). -/
  | std
  /-- INC: memory or register (R250). -/
  | incRm (w : Width) (rm : Rm)
  /-- DEC: memory or register (R251). -/
  | decRm (w : Width) (rm : Rm)
  /-- CALL: intrasegment indirect (R353). -/
  | callInd (rm : Rm)
  /-- CALL: intersegment indirect (R355). -/
  | callFarInd (rm : Rm)
  /-- JMP: intrasegment indirect (R363). -/
  | jmpInd (rm : Rm)
  /-- JMP: intersegment indirect (R364). -/
  | jmpFarInd (rm : Rm)
  /-- PUSH: memory or register (R208). -/
  | pushRm (rm : Rm)
  /-- PUSHA (R456). -/
  | pusha
  /-- POPA (R455). -/
  | popa
  /-- PUSH: immediate (R457). -/
  | pushImm16 (imm16 : Word)
  /-- PUSH: immediate, sign-extended byte (R457). -/
  | pushImm8 (imm8 : Byte)
  /-- IMUL: destination, source, immediate (16-bit) (R450). -/
  | imul3 (r : Bits3) (rm : Rm) (imm16 : Word)
  /-- IMUL: destination, source, immediate (sign-extended byte) (R450). -/
  | imul3S (r : Bits3) (rm : Rm) (imm8 : Byte)
  /-- INS: INSB (w=0) / INSW (w=1) (R452). -/
  | ins (w : Width)
  /-- OUTS: OUTSB (w=0) / OUTSW (w=1) (R453). -/
  | outs (w : Width)
  /-- ROL: destination, immediate count (R458). -/
  | rolImm (w : Width) (rm : Rm) (cnt : Byte)
  /-- ROR: destination, immediate count (R458). -/
  | rorImm (w : Width) (rm : Rm) (cnt : Byte)
  /-- RCL: destination, immediate count (R458). -/
  | rclImm (w : Width) (rm : Rm) (cnt : Byte)
  /-- RCR: destination, immediate count (R458). -/
  | rcrImm (w : Width) (rm : Rm) (cnt : Byte)
  /-- SAL_SHL: destination, immediate count (R458). -/
  | shlImm (w : Width) (rm : Rm) (cnt : Byte)
  /-- SHR: destination, immediate count (R458). -/
  | shrImm (w : Width) (rm : Rm) (cnt : Byte)
  /-- SAR: destination, immediate count (R458). -/
  | sarImm (w : Width) (rm : Rm) (cnt : Byte)
  /-- BSF (R470). -/
  | bsf (r : Bits3) (rm : Rm)
  /-- BSR (R470). -/
  | bsr (r : Bits3) (rm : Rm)
  /-- BT: source is register (R473). -/
  | bt (rm : Rm) (r : Bits3)
  /-- BTS: source is register (R474). -/
  | bts (rm : Rm) (r : Bits3)
  /-- BTR: source is register (R475). -/
  | btr (rm : Rm) (r : Bits3)
  /-- BTC: source is register (R476). -/
  | btc (rm : Rm) (r : Bits3)
  /-- BT: source is 8-bit immediate (R473). -/
  | btImm (rm : Rm) (imm8 : Byte)
  /-- BTS: source is 8-bit immediate (R474). -/
  | btsImm (rm : Rm) (imm8 : Byte)
  /-- BTR: source is 8-bit immediate (R475). -/
  | btrImm (rm : Rm) (imm8 : Byte)
  /-- BTC: source is 8-bit immediate (R476). -/
  | btcImm (rm : Rm) (imm8 : Byte)
  /-- MOVSX (R477). -/
  | movsx (r : Bits3) (rm : Rm)
  /-- MOVZX (R478). -/
  | movzx (r : Bits3) (rm : Rm)
  /-- SETO: destination byte (R480). -/
  | seto (rm : Rm)
  /-- SETNO: destination byte (R480). -/
  | setno (rm : Rm)
  /-- SETB_SETNAE_SETC: destination byte (R480). -/
  | setb (rm : Rm)
  /-- SETAE_SETNB_SETNC: destination byte (R480). -/
  | setae (rm : Rm)
  /-- SETE_SETZ: destination byte (R480). -/
  | sete (rm : Rm)
  /-- SETNE_SETNZ: destination byte (R480). -/
  | setne (rm : Rm)
  /-- SETBE_SETNA: destination byte (R480). -/
  | setbe (rm : Rm)
  /-- SETA_SETNBE: destination byte (R480). -/
  | seta (rm : Rm)
  /-- SETS: destination byte (R480). -/
  | sets (rm : Rm)
  /-- SETNS: destination byte (R480). -/
  | setns (rm : Rm)
  /-- SETP_SETPE: destination byte (R480). -/
  | setp (rm : Rm)
  /-- SETNP_SETPO: destination byte (R480). -/
  | setnp (rm : Rm)
  /-- SETL_SETNGE: destination byte (R480). -/
  | setl (rm : Rm)
  /-- SETGE_SETNL: destination byte (R480). -/
  | setge (rm : Rm)
  /-- SETLE_SETNG: destination byte (R480). -/
  | setle (rm : Rm)
  /-- SETG_SETNLE: destination byte (R480). -/
  | setg (rm : Rm)
  /-- SHLD: count is immediate (R483). -/
  | shldImm (rm : Rm) (r : Bits3) (cnt : Byte)
  /-- SHLD: count is CL (R483). -/
  | shldCl (rm : Rm) (r : Bits3)
  /-- SHRD: count is immediate (R484). -/
  | shrdImm (rm : Rm) (r : Bits3) (cnt : Byte)
  /-- SHRD: count is CL (R484). -/
  | shrdCl (rm : Rm) (r : Bits3)
  /-- FADD: short real (R426). -/
  | faddM32 (rm : Rm)
  /-- FADD: long real (R426). -/
  | faddM64 (rm : Rm)
  /-- FADD: ST, ST(i) (R426). -/
  | faddStSti (sti : Bits3)
  /-- FADD: ST(i), ST (R426). -/
  | faddStiSt (sti : Bits3)
  /-- FMUL: short real (R428). -/
  | fmulM32 (rm : Rm)
  /-- FMUL: long real (R428). -/
  | fmulM64 (rm : Rm)
  /-- FMUL: ST, ST(i) (R428). -/
  | fmulStSti (sti : Bits3)
  /-- FMUL: ST(i), ST (R428). -/
  | fmulStiSt (sti : Bits3)
  /-- FSUB: short real (R427). -/
  | fsubM32 (rm : Rm)
  /-- FSUB: long real (R427). -/
  | fsubM64 (rm : Rm)
  /-- FSUB: ST, ST(i) (R427). -/
  | fsubStSti (sti : Bits3)
  /-- FSUB: ST(i), ST (R427). -/
  | fsubStiSt (sti : Bits3)
  /-- FDIV: short real (R429). -/
  | fdivM32 (rm : Rm)
  /-- FDIV: long real (R429). -/
  | fdivM64 (rm : Rm)
  /-- FDIV: ST, ST(i) (R429). -/
  | fdivStSti (sti : Bits3)
  /-- FDIV: ST(i), ST (R429). -/
  | fdivStiSt (sti : Bits3)
  /-- FIADD: word integer (R430). -/
  | fiaddM16 (rm : Rm)
  /-- FIADD: short integer (R430). -/
  | fiaddM32 (rm : Rm)
  /-- FIMUL: word integer (R432). -/
  | fimulM16 (rm : Rm)
  /-- FIMUL: short integer (R432). -/
  | fimulM32 (rm : Rm)
  /-- FISUB: word integer (R431). -/
  | fisubM16 (rm : Rm)
  /-- FISUB: short integer (R431). -/
  | fisubM32 (rm : Rm)
  /-- FIDIV: word integer (R433). -/
  | fidivM16 (rm : Rm)
  /-- FIDIV: short integer (R433). -/
  | fidivM32 (rm : Rm)
  /-- FILD: word integer (R437). -/
  | fildM16 (rm : Rm)
  /-- FILD: short integer (R437). -/
  | fildM32 (rm : Rm)
  /-- FILD: long integer (R437). -/
  | fildM64 (rm : Rm)
  /-- FIST: word integer (R438). -/
  | fistM16 (rm : Rm)
  /-- FIST: short integer (R438). -/
  | fistM32 (rm : Rm)
  /-- FISTP: word integer (R439). -/
  | fistpM16 (rm : Rm)
  /-- FISTP: short integer (R439). -/
  | fistpM32 (rm : Rm)
  /-- FISTP: long integer (R439). -/
  | fistpM64 (rm : Rm)
  /-- FLD: short real (R434). -/
  | fldM32 (rm : Rm)
  /-- FLD: long real (R434). -/
  | fldM64 (rm : Rm)
  /-- FLD: temporary real (R434). -/
  | fldM80 (rm : Rm)
  /-- FLD: ST(i) (R434). -/
  | fldSti (sti : Bits3)
  /-- FST: short real (R435). -/
  | fstM32 (rm : Rm)
  /-- FST: long real (R435). -/
  | fstM64 (rm : Rm)
  /-- FST: ST(i) (R435). -/
  | fstSti (sti : Bits3)
  /-- FSTP: short real (R436). -/
  | fstpM32 (rm : Rm)
  /-- FSTP: long real (R436). -/
  | fstpM64 (rm : Rm)
  /-- FSTP: temporary real (R436). -/
  | fstpM80 (rm : Rm)
  /-- FSTP: ST(i) (R436). -/
  | fstpSti (sti : Bits3)
  /-- FBLD: packed decimal (R440). -/
  | fbld (rm : Rm)
  /-- FBSTP: packed decimal (R441). -/
  | fbstp (rm : Rm)
  /-- FADD: no operand (ST(1) <- ST(1) op ST; pop) (R426). -/
  | faddP
  /-- FMUL: no operand (ST(1) <- ST(1) op ST; pop) (R428). -/
  | fmulP
  /-- FSUB: no operand (ST(1) <- ST(1) op ST; pop) (R427). -/
  | fsubP
  /-- FDIV: no operand (ST(1) <- ST(1) op ST; pop) (R429). -/
  | fdivP
  deriving DecidableEq, Repr

/-- Why the decoder gives a byte sequence no meaning (R150, R126). None of these is a trap (D14). -/
inductive DecodeError
  /-- No row of the opcode table has this opcode byte (R150 items 1 and 2). -/
  | undefinedOpcode
  /-- No row has this opcode extension in the REG field (R141, R150 items 2, 3 and 4). -/
  | undefinedExtension
  /-- The row belongs to a part of the instruction set the configuration leaves out (D1). -/
  | notConfigured
  /-- CS as the destination of MOV or POP (R28). -/
  | csDestination
  /-- MOD = 11 where the operand must be in memory (R150 item 6). -/
  | registerOperand
  /-- AAM or AAD with a second byte other than 0Ah (R150 item 5). -/
  | fixedByte
  /-- The bytes end inside the instruction. The step gives the decoder too few bytes only where the reset comes
  before the next one is fetched (R540). -/
  | truncated
  deriving DecidableEq, Repr

end Sys2Proof
end

