-- ==== Sys2Proof/Config.lean ====
section
/-! DEFINITION. The implementation parameters of spec 00_scope R5, as one record that State carries
(log 1), with the parts of the state that the parameter RESET names; and the values the spec leaves free,
as constants without a body (log 9, 10, 11, 13, 20). -/

namespace Sys2Proof.Machine

/-! ## State that the parameter RESET gives a value -/

/-- The nine flags of FLAGS (R29). Its other bits are not state (R40). -/
structure Flags where
  CF : Bool
  PF : Bool
  AF : Bool
  ZF : Bool
  SF : Bool
  TF : Bool
  IF : Bool
  DF : Bool
  OF : Bool
  deriving DecidableEq, Repr

/-- The run state (R46). -/
inductive RunState
  | running
  | halted
  /-- In the wait state of WAIT; `ipNext` is the offset after the WAIT (R408, log 18). -/
  | waiting (ipNext : Word)
  deriving DecidableEq, Repr

/-- The repeat prefixes (R338): `rep` is F3, `repne` is F2. -/
inductive Rep
  | rep
  | repne
  deriving DecidableEq, Repr

/-- The prefix state (R49). -/
structure Prefixes where
  rep : Option Rep
  lock : Bool
  seg : Option SReg
  deriving DecidableEq, Repr

/-- No prefix seen. -/
def Prefixes.empty : Prefixes where
  rep := none
  lock := false
  seg := none

/-- The parameter RESET (R5, R60, R540): what the reset event puts in place. The non-flag bits of FLAGS read
as `FLAGS_FIXED`, and the general registers are no part of it (R60). -/
structure ResetValues where
  ip : Word
  cs : Word
  ds : Word
  es : Word
  ss : Word
  flags : Flags
  run : RunState
  intrPending : Bool
  nmiPending : Bool
  /-- `inhibit_once` -/
  inhibit : Bool
  /-- The prefix state. -/
  pfx : Prefixes
  /-- Each place of the 8087 stack; `none` is empty. -/
  st : Option TReal
  deriving DecidableEq, Repr

/-- The default of RESET (R60). -/
def defaultReset : ResetValues where
  ip := 0x0000
  cs := 0xFFFF
  ds := 0x0000
  es := 0x0000
  ss := 0x0000
  flags := {
    CF := false, PF := false, AF := false, ZF := false, SF := false
    TF := false, IF := false, DF := false, OF := false }
  run := .running
  intrPending := false
  nmiPending := false
  inhibit := false
  pfx := Prefixes.empty
  st := none

end Sys2Proof.Machine

namespace Sys2Proof

/-- The parameter LEVEL (R5): each level includes the one before. -/
inductive Level
  | l8086
  | l80286
  | l80386
  deriving DecidableEq, Repr

/-- The parameter DIVERR_SAVED_IP (R5, R503). -/
inductive DivErrorIp
  | next
  | faulting
  deriving DecidableEq, Repr

/-- The parameters of R5. FPU is the constants below; TEST_ready is an input of the environment. -/
structure Config where
  /-- LEVEL -/
  level : Level
  /-- HAS_8087 -/
  has8087 : Bool
  /-- PHYS_BITS, the width of a physical address -/
  physBits : Nat
  /-- IVT_BASE, the physical address of vector 0 -/
  ivtBase : Nat
  /-- FLAGS_FIXED, what the FLAGS bits that hold no flag read as -/
  flagsFixed : Word
  /-- SHIFT_COUNT_MASK -/
  shiftCountMask : Byte
  /-- IDIV_MOST_NEGATIVE_OK -/
  idivMostNegativeOk : Bool
  /-- DIVERR_SAVED_IP -/
  divErrorIp : DivErrorIp
  /-- BSX_ZF_WHEN_ZERO -/
  bsxZfWhenZero : Bool
  /-- ST_DEPTH, the number of 8087 stack registers -/
  stDepth : Nat
  /-- PREFETCH_BYTES: how many bytes after a storing instruction its store may stay unseen by fetch (R95) -/
  prefetchBytes : Nat
  /-- RESET -/
  reset : Machine.ResetValues
  deriving DecidableEq, Repr

/-- Whether the configured machine decodes the rows of a part (R5, R127, R450, D1). -/
def Config.decodes (c : Config) : IsaPart → Bool
  | .base8086 => true
  | .fpu8087 => c.has8087
  | .ext80286 => decide (c.level ≠ .l8086)
  | .ext80386 => decide (c.level = .l80386)

/-- `undefined_bit()` (R9, D9): the n-th draw of one bit. -/
opaque Config.freeBit : Nat → Bool

/-- Whether an interrupt shadow stands until the next instruction has completed, with all its iterations (R48,
R412, R551), or is over before that instruction (the pseudocode of R510): the rules differ, so it is free
(DESIGN CHOICE, log 37). -/
opaque Config.shadowStands : Bool

/-- `undefined_8()` (R9): the n-th draw of a byte. -/
opaque Config.freeByte : Nat → Byte

/-- `undefined_16()` (R9): the n-th draw of a word. -/
opaque Config.freeWord : Nat → Word

/-- What a read of a port returns when the environment's answers are not listed (R78): a function of
the port and the number of the draw. -/
opaque Config.portInput : Word → Nat → Byte

/-- The 8087 arithmetic of R423, uninterpreted (D22). -/
opaque Config.fadd : TReal → TReal → TReal
@[inherit_doc Config.fadd] opaque Config.fsub : TReal → TReal → TReal
@[inherit_doc Config.fadd] opaque Config.fmul : TReal → TReal → TReal
@[inherit_doc Config.fadd] opaque Config.fdiv : TReal → TReal → TReal

/-- `of_int_N` of R423, uninterpreted. -/
opaque Config.ofInt16 : BitVec 16 → TReal
@[inherit_doc Config.ofInt16] opaque Config.ofInt32 : BitVec 32 → TReal
@[inherit_doc Config.ofInt16] opaque Config.ofInt64 : BitVec 64 → TReal

/-- `of_real_N` of R423 for N = 32 and 64, uninterpreted. -/
opaque Config.ofReal32 : BitVec 32 → TReal
@[inherit_doc Config.ofReal32] opaque Config.ofReal64 : BitVec 64 → TReal

/-- `of_bcd` and `to_bcd` of R423, uninterpreted. -/
opaque Config.ofBcd : BitVec 80 → TReal
@[inherit_doc Config.ofBcd] opaque Config.toBcd : TReal → BitVec 80

/-- `to_real_N` of R423 for N = 32 and 64, uninterpreted. -/
opaque Config.toReal32 : TReal → BitVec 32
@[inherit_doc Config.toReal32] opaque Config.toReal64 : TReal → BitVec 64

/-- `to_int_N` of R423, uninterpreted. -/
opaque Config.toInt16 : TReal → BitVec 16
@[inherit_doc Config.toInt16] opaque Config.toInt32 : TReal → BitVec 32
@[inherit_doc Config.toInt16] opaque Config.toInt64 : TReal → BitVec 64

end Sys2Proof
end

