-- ==== Sys2Proof/Machine/Build.lean ====
section
/-! DEFINITION. The configuration the one machine `core` runs with from reset (log 1, log 26). Every
meaning reads its parameters from the state, so every other configuration is a state of the model too. -/

namespace Sys2Proof.Machine

/-- DESIGN CHOICE (log 1): the machine that decodes every section of the opcode table, LEVEL = L80386 with
an 8087. The parameters that the spec ties to LEVEL have their values for that level (R5, R208, R300,
R503); FLAGS_FIXED is 0002h, the value D7 gives above the 8086 (log 26). -/
def resetConfig : Config where
  level := .l80386
  has8087 := true
  physBits := 20
  ivtBase := 0
  flagsFixed := 0x0002
  shiftCountMask := 0x1F
  idivMostNegativeOk := true
  divErrorIp := .faulting
  bsxZfWhenZero := false
  stDepth := 8
  prefetchBytes := 6
  reset := defaultReset

/-- The spec's default configuration (R5): an 8086 without a coprocessor. The spec's test vectors
(95_test_vectors) start from it. -/
def config8086 : Config where
  level := .l8086
  has8087 := false
  physBits := 20
  ivtBase := 0
  flagsFixed := 0xF002
  shiftCountMask := 0xFF
  idivMostNegativeOk := false
  divErrorIp := .next
  bsxZfWhenZero := false
  stDepth := 8
  prefetchBytes := 6
  reset := defaultReset

/-- The spec's default parameters at LEVEL = L80286 (R5, D7). -/
def config80286 : Config where
  level := .l80286
  has8087 := false
  physBits := 20
  ivtBase := 0
  flagsFixed := 0x0002
  shiftCountMask := 0x1F
  idivMostNegativeOk := true
  divErrorIp := .faulting
  bsxZfWhenZero := false
  stDepth := 8
  prefetchBytes := 6
  reset := defaultReset

end Sys2Proof.Machine
end

