-- ==== Sys2Proof/Machine/Esc.lean ====
section
/-! DEFINITION. The 8087 rows among the ESC encodings (R424, the table's rows of level 8087). -/

namespace Sys2Proof

/-- The 8087 instruction of an ESC encoding `11011 x1`, MOD `x2` R/M, if R424 lists one. `x1` is bits 2 to 0
of the first byte, `x2` the REG field of the second; MOD = 11 gives the stack register forms. -/
def fpuInstr (x1 x2 : Bits3) (rm : Rm) : Option Instr :=
  match rm with
  | .reg n =>
    match x1, x2 with
    | .b000, .b000 => some (.faddStSti n)
    | .b000, .b001 => some (.fmulStSti n)
    | .b000, .b100 => some (.fsubStSti n)
    | .b000, .b110 => some (.fdivStSti n)
    | .b001, .b000 => some (.fldSti n)
    | .b100, .b000 => some (.faddStiSt n)
    | .b100, .b001 => some (.fmulStiSt n)
    | .b100, .b101 => some (.fsubStiSt n)
    | .b100, .b111 => some (.fdivStiSt n)
    | .b101, .b010 => some (.fstSti n)
    | .b101, .b011 => some (.fstpSti n)
    | .b110, .b000 => if n = .b001 then some .faddP else none
    | .b110, .b001 => if n = .b001 then some .fmulP else none
    | .b110, .b101 => if n = .b001 then some .fsubP else none
    | .b110, .b111 => if n = .b001 then some .fdivP else none
    | _, _ => none
  | .direct _ | .base _ | .disp8 _ _ | .disp16 _ _ =>
    match x1, x2 with
    | .b000, .b000 => some (.faddM32 rm)
    | .b000, .b001 => some (.fmulM32 rm)
    | .b000, .b100 => some (.fsubM32 rm)
    | .b000, .b110 => some (.fdivM32 rm)
    | .b001, .b000 => some (.fldM32 rm)
    | .b001, .b010 => some (.fstM32 rm)
    | .b001, .b011 => some (.fstpM32 rm)
    | .b010, .b000 => some (.fiaddM32 rm)
    | .b010, .b001 => some (.fimulM32 rm)
    | .b010, .b100 => some (.fisubM32 rm)
    | .b010, .b110 => some (.fidivM32 rm)
    | .b011, .b000 => some (.fildM32 rm)
    | .b011, .b010 => some (.fistM32 rm)
    | .b011, .b011 => some (.fistpM32 rm)
    | .b011, .b101 => some (.fldM80 rm)
    | .b011, .b111 => some (.fstpM80 rm)
    | .b100, .b000 => some (.faddM64 rm)
    | .b100, .b001 => some (.fmulM64 rm)
    | .b100, .b100 => some (.fsubM64 rm)
    | .b100, .b110 => some (.fdivM64 rm)
    | .b101, .b000 => some (.fldM64 rm)
    | .b101, .b010 => some (.fstM64 rm)
    | .b101, .b011 => some (.fstpM64 rm)
    | .b110, .b000 => some (.fiaddM16 rm)
    | .b110, .b001 => some (.fimulM16 rm)
    | .b110, .b100 => some (.fisubM16 rm)
    | .b110, .b110 => some (.fidivM16 rm)
    | .b111, .b000 => some (.fildM16 rm)
    | .b111, .b010 => some (.fistM16 rm)
    | .b111, .b011 => some (.fistpM16 rm)
    | .b111, .b100 => some (.fbld rm)
    | .b111, .b101 => some (.fildM64 rm)
    | .b111, .b110 => some (.fbstp rm)
    | .b111, .b111 => some (.fistpM64 rm)
    | _, _ => none

end Sys2Proof
end

