-- ==== Sys2Proof/WellFormed.lean ====
section
/-! DEFINITION. Which instruction terms have an encoding in the configured machine. -/

namespace Sys2Proof

/-- The part of the instruction set a row belongs to (the table's `level`). -/
def Instr.part : Instr → IsaPart
  | .addRm _ _ _ _ | .addAcc _ _ | .addImm _ _ _ | .addImmS _ _ | .orRm _ _ _ _ | .orAcc _ _ | .orImm _ _ _ | .adcRm _ _ _ _
  | .adcAcc _ _ | .adcImm _ _ _ | .adcImmS _ _ | .sbbRm _ _ _ _ | .sbbAcc _ _ | .sbbImm _ _ _ | .sbbImmS _ _ | .andRm _ _ _ _
  | .andAcc _ _ | .andImm _ _ _ | .subRm _ _ _ _ | .subAcc _ _ | .subImm _ _ _ | .subImmS _ _ | .xorRm _ _ _ _ | .xorAcc _ _
  | .xorImm _ _ _ | .cmpRm _ _ _ _ | .cmpAcc _ _ | .cmpImm _ _ _ | .cmpImmS _ _ | .pushEs | .popEs | .pushCs
  | .pushSs | .popSs | .pushDs | .popDs | .segEs | .segCs | .segSs | .segDs
  | .daa | .das | .aaa | .aas | .incReg _ | .decReg _ | .pushReg _ | .popReg _
  | .jo _ | .jno _ | .jb _ | .jae _ | .je _ | .jne _ | .jbe _ | .ja _
  | .js _ | .jns _ | .jp _ | .jnp _ | .jl _ | .jge _ | .jle _ | .jg _
  | .testRm _ _ _ | .xchgRm _ _ _ | .movRm _ _ _ _ | .movRmSeg _ _ | .lea _ _ | .movSegRm _ _ | .popRm _ | .nop
  | .xchgAcc _ | .cbw | .cwd | .callFar _ _ | .wait | .pushf | .popf | .sahf
  | .lahf | .movAccMem _ _ | .movMemAcc _ _ | .movs _ | .cmps _ | .stos _ | .lods _ | .scas _
  | .testAcc _ _ | .movRegImm _ _ _ | .retPop _ | .ret | .les _ _ | .lds _ _ | .movRmImm _ _ _ | .retFarPop _
  | .retFar | .int3 | .intN _ | .into | .iret | .rol _ _ _ | .ror _ _ _ | .rcl _ _ _
  | .rcr _ _ _ | .shl _ _ _ | .shr _ _ _ | .sar _ _ _ | .aam | .aad | .xlat | .esc _ _ _
  | .loopne _ | .loope _ | .loop _ | .jcxz _ | .inFixed _ _ | .outFixed _ _ | .callNear _ | .jmpNear _
  | .jmpFar _ _ | .jmpShort _ | .inDx _ | .outDx _ | .lock | .repne | .rep | .hlt
  | .cmc | .testImm _ _ _ | .not _ _ | .neg _ _ | .mul _ _ | .imul _ _ | .div _ _ | .idiv _ _
  | .clc | .stc | .cli | .sti | .cld | .std | .incRm _ _ | .decRm _ _
  | .callInd _ | .callFarInd _ | .jmpInd _ | .jmpFarInd _ | .pushRm _ => .base8086
  | .pusha | .popa | .pushImm16 _ | .pushImm8 _ | .imul3 _ _ _ | .imul3S _ _ _ | .ins _ | .outs _
  | .rolImm _ _ _ | .rorImm _ _ _ | .rclImm _ _ _ | .rcrImm _ _ _ | .shlImm _ _ _ | .shrImm _ _ _ | .sarImm _ _ _ => .ext80286
  | .bsf _ _ | .bsr _ _ | .bt _ _ | .bts _ _ | .btr _ _ | .btc _ _ | .btImm _ _ | .btsImm _ _
  | .btrImm _ _ | .btcImm _ _ | .movsx _ _ | .movzx _ _ | .seto _ | .setno _ | .setb _ | .setae _
  | .sete _ | .setne _ | .setbe _ | .seta _ | .sets _ | .setns _ | .setp _ | .setnp _
  | .setl _ | .setge _ | .setle _ | .setg _ | .shldImm _ _ _ | .shldCl _ _ | .shrdImm _ _ _ | .shrdCl _ _ => .ext80386
  | .faddM32 _ | .faddM64 _ | .faddStSti _ | .faddStiSt _ | .faddP | .fmulM32 _ | .fmulM64 _ | .fmulStSti _
  | .fmulStiSt _ | .fmulP | .fsubM32 _ | .fsubM64 _ | .fsubStSti _ | .fsubStiSt _ | .fsubP | .fdivM32 _
  | .fdivM64 _ | .fdivStSti _ | .fdivStiSt _ | .fdivP | .fiaddM16 _ | .fiaddM32 _ | .fimulM16 _ | .fimulM32 _
  | .fisubM16 _ | .fisubM32 _ | .fidivM16 _ | .fidivM32 _ | .fildM16 _ | .fildM32 _ | .fildM64 _ | .fistM16 _
  | .fistM32 _ | .fistpM16 _ | .fistpM32 _ | .fistpM64 _ | .fldM32 _ | .fldM64 _ | .fldM80 _ | .fldSti _
  | .fstM32 _ | .fstM64 _ | .fstSti _ | .fstpM32 _ | .fstpM64 _ | .fstpM80 _ | .fstpSti _ | .fbld _
  | .fbstp _ => .fpu8087

/-- MOD = 00 with R/M = 110 is the direct address, so the base BP has no form without a displacement
(R117). -/
def Rm.encodable : Rm → Bool
  | .base .bp => false
  | .base _ => true
  | .reg _ => true
  | .direct _ => true
  | .disp8 _ _ => true
  | .disp16 _ _ => true

/-- Whether the operand is in memory (MOD other than 11). -/
def Rm.inMemory : Rm → Bool
  | .reg _ => false
  | .direct _ => true
  | .base _ => true
  | .disp8 _ _ => true
  | .disp16 _ _ => true

/-- The operands are ones the row's encoding admits: the R/M operand has an encoding, it is in memory where
R150 item 6 or the 8087 row asks for it, CS is no destination (R28), the exchange of AX with itself is
written NOP (R151), and an ESC is no 8087 instruction where there is an 8087 (R131). -/
def Instr.operandsOk (c : Config) : Instr → Bool
  | .addAcc _ _ | .orAcc _ _ | .adcAcc _ _ | .sbbAcc _ _ | .andAcc _ _ | .subAcc _ _ | .xorAcc _ _ | .cmpAcc _ _
  | .pushEs | .popEs | .pushCs | .pushSs | .popSs | .pushDs | .popDs | .segEs
  | .segCs | .segSs | .segDs | .daa | .das | .aaa | .aas | .incReg _
  | .decReg _ | .pushReg _ | .popReg _ | .jo _ | .jno _ | .jb _ | .jae _ | .je _
  | .jne _ | .jbe _ | .ja _ | .js _ | .jns _ | .jp _ | .jnp _ | .jl _
  | .jge _ | .jle _ | .jg _ | .nop | .cbw | .cwd | .callFar _ _ | .wait
  | .pushf | .popf | .sahf | .lahf | .movAccMem _ _ | .movMemAcc _ _ | .movs _ | .cmps _
  | .stos _ | .lods _ | .scas _ | .testAcc _ _ | .movRegImm _ _ _ | .retPop _ | .ret | .retFarPop _
  | .retFar | .int3 | .intN _ | .into | .iret | .aam | .aad | .xlat
  | .loopne _ | .loope _ | .loop _ | .jcxz _ | .inFixed _ _ | .outFixed _ _ | .callNear _ | .jmpNear _
  | .jmpFar _ _ | .jmpShort _ | .inDx _ | .outDx _ | .lock | .repne | .rep | .hlt
  | .cmc | .clc | .stc | .cli | .sti | .cld | .std | .pusha
  | .popa | .pushImm16 _ | .pushImm8 _ | .ins _ | .outs _ | .faddStSti _ | .faddStiSt _ | .faddP
  | .fmulStSti _ | .fmulStiSt _ | .fmulP | .fsubStSti _ | .fsubStiSt _ | .fsubP | .fdivStSti _ | .fdivStiSt _
  | .fdivP | .fldSti _ | .fstSti _ | .fstpSti _ => true
  | .addRm _ _ rm _ | .addImm _ rm _ | .addImmS rm _ | .orRm _ _ rm _ | .orImm _ rm _
  | .adcRm _ _ rm _ | .adcImm _ rm _ | .adcImmS rm _ | .sbbRm _ _ rm _ | .sbbImm _ rm _
  | .sbbImmS rm _ | .andRm _ _ rm _ | .andImm _ rm _ | .subRm _ _ rm _ | .subImm _ rm _
  | .subImmS rm _ | .xorRm _ _ rm _ | .xorImm _ rm _ | .cmpRm _ _ rm _ | .cmpImm _ rm _
  | .cmpImmS rm _ | .testRm _ rm _ | .xchgRm _ rm _ | .movRm _ _ rm _ | .movRmSeg rm _
  | .popRm rm | .movRmImm _ rm _ | .rol _ _ rm | .ror _ _ rm | .rcl _ _ rm
  | .rcr _ _ rm | .shl _ _ rm | .shr _ _ rm | .sar _ _ rm | .testImm _ rm _
  | .not _ rm | .neg _ rm | .mul _ rm | .imul _ rm | .div _ rm
  | .idiv _ rm | .incRm _ rm | .decRm _ rm | .callInd rm | .jmpInd rm
  | .pushRm rm | .imul3 _ rm _ | .imul3S _ rm _ | .rolImm _ rm _ | .rorImm _ rm _
  | .rclImm _ rm _ | .rcrImm _ rm _ | .shlImm _ rm _ | .shrImm _ rm _ | .sarImm _ rm _
  | .bsf _ rm | .bsr _ rm | .bt rm _ | .bts rm _ | .btr rm _
  | .btc rm _ | .btImm rm _ | .btsImm rm _ | .btrImm rm _ | .btcImm rm _
  | .movsx _ rm | .movzx _ rm | .seto rm | .setno rm | .setb rm
  | .setae rm | .sete rm | .setne rm | .setbe rm | .seta rm
  | .sets rm | .setns rm | .setp rm | .setnp rm | .setl rm
  | .setge rm | .setle rm | .setg rm | .shldImm rm _ _ | .shldCl rm _
  | .shrdImm rm _ _ | .shrdCl rm _ => rm.encodable
  | .lea _ rm | .les _ rm | .lds _ rm | .callFarInd rm | .jmpFarInd rm
  | .faddM32 rm | .faddM64 rm | .fmulM32 rm | .fmulM64 rm | .fsubM32 rm
  | .fsubM64 rm | .fdivM32 rm | .fdivM64 rm | .fiaddM16 rm | .fiaddM32 rm
  | .fimulM16 rm | .fimulM32 rm | .fisubM16 rm | .fisubM32 rm | .fidivM16 rm
  | .fidivM32 rm | .fildM16 rm | .fildM32 rm | .fildM64 rm | .fistM16 rm
  | .fistM32 rm | .fistpM16 rm | .fistpM32 rm | .fistpM64 rm | .fldM32 rm
  | .fldM64 rm | .fldM80 rm | .fstM32 rm | .fstM64 rm | .fstpM32 rm
  | .fstpM64 rm | .fstpM80 rm | .fbld rm | .fbstp rm => rm.encodable && rm.inMemory
  | .movSegRm sr rm => decide (sr ≠ .cs) && rm.encodable
  | .xchgAcc r => decide (r ≠ .b000)
  | .esc x1 x2 rm => rm.encodable && !(c.has8087 && (fpuInstr x1 x2 rm).isSome)

/-- An instruction the configured machine has an encoding of. -/
def Instr.wellFormed (c : Config) (i : Instr) : Bool :=
  c.decodes i.part && i.operandsOk c

end Sys2Proof
end

