-- ==== Sys2Proof/Decode.lean ====
section
/-! DEFINITION. The decoder, total on any bytes and rejecting by name, and the encoder (30_encoding). -/

namespace Sys2Proof

/-! ## Fields -/

/-- The three bits of a field. -/
def Bits3.bits : Bits3 → BitVec 3
  | .b000 => 0b000
  | .b001 => 0b001
  | .b010 => 0b010
  | .b011 => 0b011
  | .b100 => 0b100
  | .b101 => 0b101
  | .b110 => 0b110
  | .b111 => 0b111

/-- The field with these bits. -/
def Bits3.ofBits (v : BitVec 3) : Bits3 :=
  match v.toNat with
  | 0 => .b000
  | 1 => .b001
  | 2 => .b010
  | 3 => .b011
  | 4 => .b100
  | 5 => .b101
  | 6 => .b110
  | _ => .b111

/-- The base and index of an R/M value (R118, Figure F.2). -/
def EaBase.ofField : Bits3 → EaBase
  | .b000 => .bxSi
  | .b001 => .bxDi
  | .b010 => .bpSi
  | .b011 => .bpDi
  | .b100 => .si
  | .b101 => .di
  | .b110 => .bp
  | .b111 => .bx

/-- The R/M value of a base and index (R118). -/
def EaBase.field : EaBase → Bits3
  | .bxSi => .b000
  | .bxDi => .b001
  | .bpSi => .b010
  | .bpDi => .b011
  | .si => .b100
  | .di => .b101
  | .bp => .b110
  | .bx => .b111

/-- The segment register a REG field `0 seg` names, if its top bit is 0 (R116, R150 item 3). -/
def SReg.ofField : Bits3 → Option SReg
  | .b000 => some .es
  | .b001 => some .cs
  | .b010 => some .ss
  | .b011 => some .ds
  | .b100 => none
  | .b101 => none
  | .b110 => none
  | .b111 => none

/-- The REG field `0 seg` of a segment register (R116). -/
def SReg.field : SReg → Bits3
  | .es => .b000
  | .cs => .b001
  | .ss => .b010
  | .ds => .b011

/-- The W bit, bit 0 of the opcode byte in most formats (R113). -/
def widthBit (b : Byte) (k : Nat) : Width := if b.getLsbD k then .word else .byte

/-- The D bit, bit 1 of the opcode byte (R114). -/
def dirBit (b : Byte) : Dir := if b.getLsbD 1 then .toReg else .toRm

/-- The v bit, bit 1 of the opcode byte (R123). -/
def countBit (b : Byte) : ShiftCount := if b.getLsbD 1 then .cl else .one

/-- Bits 2 to 0 of a byte (R115, R112). -/
def lowField (b : Byte) : Bits3 := .ofBits (b.extractLsb' 0 3)

/-- Bits 5 to 3 of a byte (R112). -/
def midField (b : Byte) : Bits3 := .ofBits (b.extractLsb' 3 3)

/-! ## The layout of an instruction -/

/-- What follows the opcode and the MOD REG R/M bytes (R122, R123), with the instruction it completes. -/
inductive Tail
  /-- Nothing follows. -/
  | done (i : Instr)
  /-- The bytes are refused. -/
  | bad (e : DecodeError)
  /-- One byte. -/
  | byte (k : Byte → Instr)
  /-- Two bytes, the low one first. -/
  | word (k : Word → Instr)
  /-- An offset and a segment, each low byte first. -/
  | far (k : Word → Word → Instr)

/-- What follows an opcode byte: a tail, or a MOD REG R/M byte whose REG field and operand choose it. -/
inductive Form
  | plain (t : Tail)
  | modrm (k : Bits3 → Rm → Tail)

/-- An immediate of the width the W bit gives (R122). -/
def Tail.imm : (w : Width) → (BitVec w.bits → Instr) → Tail
  | .byte, k => .byte k
  | .word, k => .word k

/-- A MOD = 11 operand is refused (R150 item 6). -/
def Tail.memory (rm : Rm) (t : Tail) : Tail := if rm.inMemory then t else .bad .registerOperand

/-- An opcode byte with nothing after it. -/
def Form.op (i : Instr) : Form := .plain (.done i)

/-- An opcode byte without a row. -/
def Form.noRow : Form := .plain (.bad .undefinedOpcode)

/-- The form belongs to a part of the instruction set that the configuration may leave out. -/
def Form.ifPart (c : Config) (p : IsaPart) (f : Form) : Form :=
  if c.decodes p then f else .plain (.bad .notConfigured)

/-- A group: the REG field is an opcode extension (R115, R141). -/
def Form.ext (k : Rm → Bits3 → Tail) : Form := .modrm fun x rm => k rm x

/-! ## The opcode map (R140 to R142) -/

/-- The immediate group 80, 81 (R141). -/
def immGroup (w : Width) (rm : Rm) : Bits3 → Tail
  | .b000 => .imm w (.addImm w rm)
  | .b001 => .imm w (.orImm w rm)
  | .b010 => .imm w (.adcImm w rm)
  | .b011 => .imm w (.sbbImm w rm)
  | .b100 => .imm w (.andImm w rm)
  | .b101 => .imm w (.subImm w rm)
  | .b110 => .imm w (.xorImm w rm)
  | .b111 => .imm w (.cmpImm w rm)

/-- The sign-extended immediate group 83: OR, AND and XOR have no such form (R141). -/
def immGroupS (rm : Rm) : Bits3 → Tail
  | .b000 => .byte (.addImmS rm)
  | .b001 => .bad .undefinedExtension
  | .b010 => .byte (.adcImmS rm)
  | .b011 => .byte (.sbbImmS rm)
  | .b100 => .bad .undefinedExtension
  | .b101 => .byte (.subImmS rm)
  | .b110 => .bad .undefinedExtension
  | .b111 => .byte (.cmpImmS rm)

/-- The shift and rotate group D0 to D3 (R141, R300). -/
def shiftGroup (v : ShiftCount) (w : Width) (rm : Rm) : Bits3 → Tail
  | .b000 => .done (.rol v w rm)
  | .b001 => .done (.ror v w rm)
  | .b010 => .done (.rcl v w rm)
  | .b011 => .done (.rcr v w rm)
  | .b100 => .done (.shl v w rm)
  | .b101 => .done (.shr v w rm)
  | .b110 => .bad .undefinedExtension
  | .b111 => .done (.sar v w rm)

/-- The shift and rotate group C0, C1 with an immediate count (R141, R458). -/
def shiftImmGroup (w : Width) (rm : Rm) : Bits3 → Tail
  | .b000 => .byte (.rolImm w rm)
  | .b001 => .byte (.rorImm w rm)
  | .b010 => .byte (.rclImm w rm)
  | .b011 => .byte (.rcrImm w rm)
  | .b100 => .byte (.shlImm w rm)
  | .b101 => .byte (.shrImm w rm)
  | .b110 => .bad .undefinedExtension
  | .b111 => .byte (.sarImm w rm)

/-- The group F6, F7 (R141). -/
def unaryGroup (w : Width) (rm : Rm) : Bits3 → Tail
  | .b000 => .imm w (.testImm w rm)
  | .b001 => .bad .undefinedExtension
  | .b010 => .done (.not w rm)
  | .b011 => .done (.neg w rm)
  | .b100 => .done (.mul w rm)
  | .b101 => .done (.imul w rm)
  | .b110 => .done (.div w rm)
  | .b111 => .done (.idiv w rm)

/-- The group FE (R141). -/
def incGroupByte (rm : Rm) : Bits3 → Tail
  | .b000 => .done (.incRm .byte rm)
  | .b001 => .done (.decRm .byte rm)
  | .b010 => .bad .undefinedExtension
  | .b011 => .bad .undefinedExtension
  | .b100 => .bad .undefinedExtension
  | .b101 => .bad .undefinedExtension
  | .b110 => .bad .undefinedExtension
  | .b111 => .bad .undefinedExtension

/-- The group FF (R141). -/
def incGroupWord (rm : Rm) : Bits3 → Tail
  | .b000 => .done (.incRm .word rm)
  | .b001 => .done (.decRm .word rm)
  | .b010 => .done (.callInd rm)
  | .b011 => .memory rm (.done (.callFarInd rm))
  | .b100 => .done (.jmpInd rm)
  | .b101 => .memory rm (.done (.jmpFarInd rm))
  | .b110 => .done (.pushRm rm)
  | .b111 => .bad .undefinedExtension

/-- The bit test group 0F BA (R141). -/
def bitGroup (rm : Rm) : Bits3 → Tail
  | .b000 => .bad .undefinedExtension
  | .b001 => .bad .undefinedExtension
  | .b010 => .bad .undefinedExtension
  | .b011 => .bad .undefinedExtension
  | .b100 => .byte (.btImm rm)
  | .b101 => .byte (.btsImm rm)
  | .b110 => .byte (.btrImm rm)
  | .b111 => .byte (.btcImm rm)

/-- A group whose only extension is 000 (8F, C6, C7, SETcc). -/
def onlyExt0 (t : Tail) : Bits3 → Tail
  | .b000 => t
  | .b001 => .bad .undefinedExtension
  | .b010 => .bad .undefinedExtension
  | .b011 => .bad .undefinedExtension
  | .b100 => .bad .undefinedExtension
  | .b101 => .bad .undefinedExtension
  | .b110 => .bad .undefinedExtension
  | .b111 => .bad .undefinedExtension

/-- MOV from a segment register, 8C (R203). -/
def fromSegment (rm : Rm) (x : Bits3) : Tail :=
  match SReg.ofField x with
  | some sr => .done (.movRmSeg rm sr)
  | none => .bad .undefinedExtension

/-- MOV to a segment register, 8E; CS is refused (R203, R28). -/
def toSegment (rm : Rm) (x : Bits3) : Tail :=
  match SReg.ofField x with
  | some .cs => .bad .csDestination
  | some sr => .done (.movSegRm sr rm)
  | none => .bad .undefinedExtension

/-- ESC, or the 8087 instruction it carries when there is an 8087 (R409, R424, R131). -/
def escTail (c : Config) (x1 x2 : Bits3) (rm : Rm) : Tail :=
  if c.has8087 then .done ((fpuInstr x1 x2 rm).getD (.esc x1 x2 rm)) else .done (.esc x1 x2 rm)

/-- SETcc, 0F 90 to 0F 9F: the row of a condition code (R143). -/
def setcc (cccc : BitVec 4) (rm : Rm) : Instr :=
  match cccc.toNat with
  | 0 => .seto rm
  | 1 => .setno rm
  | 2 => .setb rm
  | 3 => .setae rm
  | 4 => .sete rm
  | 5 => .setne rm
  | 6 => .setbe rm
  | 7 => .seta rm
  | 8 => .sets rm
  | 9 => .setns rm
  | 10 => .setp rm
  | 11 => .setnp rm
  | 12 => .setl rm
  | 13 => .setge rm
  | 14 => .setle rm
  | _ => .setg rm

/-- J(condition), 70 to 7F: the row of a condition code (R143). -/
def jcc (cccc : BitVec 4) (disp : Byte) : Instr :=
  match cccc.toNat with
  | 0 => .jo disp
  | 1 => .jno disp
  | 2 => .jb disp
  | 3 => .jae disp
  | 4 => .je disp
  | 5 => .jne disp
  | 6 => .jbe disp
  | 7 => .ja disp
  | 8 => .js disp
  | 9 => .jns disp
  | 10 => .jp disp
  | 11 => .jnp disp
  | 12 => .jl disp
  | 13 => .jge disp
  | 14 => .jle disp
  | _ => .jg disp

/-- First bytes 00 to 3F. 0F is the escape of R142, handled by `decode`. Each line is a mask and a match of the opcode table. -/
def opcodes0 (b : Byte) : Form :=
  let w := widthBit b 0
  let d := dirBit b
  if b &&& 0xFC = 0x00 then .modrm fun r rm => .done (.addRm d w rm r)
  else if b &&& 0xFE = 0x04 then .plain (.imm w (.addAcc w))
  else if b = 0x06 then .op .pushEs
  else if b = 0x07 then .op .popEs
  else if b &&& 0xFC = 0x08 then .modrm fun r rm => .done (.orRm d w rm r)
  else if b &&& 0xFE = 0x0C then .plain (.imm w (.orAcc w))
  else if b = 0x0E then .op .pushCs
  else if b &&& 0xFC = 0x10 then .modrm fun r rm => .done (.adcRm d w rm r)
  else if b &&& 0xFE = 0x14 then .plain (.imm w (.adcAcc w))
  else if b = 0x16 then .op .pushSs
  else if b = 0x17 then .op .popSs
  else if b &&& 0xFC = 0x18 then .modrm fun r rm => .done (.sbbRm d w rm r)
  else if b &&& 0xFE = 0x1C then .plain (.imm w (.sbbAcc w))
  else if b = 0x1E then .op .pushDs
  else if b = 0x1F then .op .popDs
  else if b &&& 0xFC = 0x20 then .modrm fun r rm => .done (.andRm d w rm r)
  else if b &&& 0xFE = 0x24 then .plain (.imm w (.andAcc w))
  else if b = 0x26 then .op .segEs
  else if b = 0x27 then .op .daa
  else if b &&& 0xFC = 0x28 then .modrm fun r rm => .done (.subRm d w rm r)
  else if b &&& 0xFE = 0x2C then .plain (.imm w (.subAcc w))
  else if b = 0x2E then .op .segCs
  else if b = 0x2F then .op .das
  else if b &&& 0xFC = 0x30 then .modrm fun r rm => .done (.xorRm d w rm r)
  else if b &&& 0xFE = 0x34 then .plain (.imm w (.xorAcc w))
  else if b = 0x36 then .op .segSs
  else if b = 0x37 then .op .aaa
  else if b &&& 0xFC = 0x38 then .modrm fun r rm => .done (.cmpRm d w rm r)
  else if b &&& 0xFE = 0x3C then .plain (.imm w (.cmpAcc w))
  else if b = 0x3E then .op .segDs
  else if b = 0x3F then .op .aas
  else Form.noRow

/-- First bytes 40 to 7F. Each line is a mask and a match of the opcode table. -/
def opcodes1 (c : Config) (b : Byte) : Form :=
  let w := widthBit b 0
  let r := lowField b
  if b &&& 0xF8 = 0x40 then .op (.incReg r)
  else if b &&& 0xF8 = 0x48 then .op (.decReg r)
  else if b &&& 0xF8 = 0x50 then .op (.pushReg r)
  else if b &&& 0xF8 = 0x58 then .op (.popReg r)
  else if b = 0x60 then .ifPart c .ext80286 (.op .pusha)
  else if b = 0x61 then .ifPart c .ext80286 (.op .popa)
  else if b = 0x68 then .ifPart c .ext80286 (.plain (.word .pushImm16))
  else if b = 0x69 then .ifPart c .ext80286 (.modrm fun r rm => .word (.imul3 r rm))
  else if b = 0x6A then .ifPart c .ext80286 (.plain (.byte .pushImm8))
  else if b = 0x6B then .ifPart c .ext80286 (.modrm fun r rm => .byte (.imul3S r rm))
  else if b &&& 0xFE = 0x6C then .ifPart c .ext80286 (.op (.ins w))
  else if b &&& 0xFE = 0x6E then .ifPart c .ext80286 (.op (.outs w))
  else if b &&& 0xF0 = 0x70 then .plain (.byte (jcc (b.extractLsb' 0 4)))
  else Form.noRow

/-- First bytes 80 to BF; 82 has no row (D38). Each line is a mask and a match of the opcode table. -/
def opcodes2 (b : Byte) : Form :=
  let w := widthBit b 0
  let d := dirBit b
  let r := lowField b
  if b &&& 0xFE = 0x80 then .ext (immGroup w)
  else if b = 0x83 then .ext immGroupS
  else if b &&& 0xFE = 0x84 then .modrm fun r rm => .done (.testRm w rm r)
  else if b &&& 0xFE = 0x86 then .modrm fun r rm => .done (.xchgRm w rm r)
  else if b &&& 0xFC = 0x88 then .modrm fun r rm => .done (.movRm d w rm r)
  else if b = 0x8C then .ext fromSegment
  else if b = 0x8D then .modrm fun r rm => .memory rm (.done (.lea r rm))
  else if b = 0x8E then .ext toSegment
  else if b = 0x8F then .ext fun rm => onlyExt0 (.done (.popRm rm))
  else if b = 0x90 then .op .nop
  else if b &&& 0xF8 = 0x90 then .op (.xchgAcc r)
  else if b = 0x98 then .op .cbw
  else if b = 0x99 then .op .cwd
  else if b = 0x9A then .plain (.far .callFar)
  else if b = 0x9B then .op .wait
  else if b = 0x9C then .op .pushf
  else if b = 0x9D then .op .popf
  else if b = 0x9E then .op .sahf
  else if b = 0x9F then .op .lahf
  else if b &&& 0xFE = 0xA0 then .plain (.word (.movAccMem w))
  else if b &&& 0xFE = 0xA2 then .plain (.word (.movMemAcc w))
  else if b &&& 0xFE = 0xA4 then .op (.movs w)
  else if b &&& 0xFE = 0xA6 then .op (.cmps w)
  else if b &&& 0xFE = 0xA8 then .plain (.imm w (.testAcc w))
  else if b &&& 0xFE = 0xAA then .op (.stos w)
  else if b &&& 0xFE = 0xAC then .op (.lods w)
  else if b &&& 0xFE = 0xAE then .op (.scas w)
  else if b &&& 0xF0 = 0xB0 then .plain (.imm (widthBit b 3) (.movRegImm (widthBit b 3) r))
  else Form.noRow

/-- First bytes C0 to FF; D4 and D5 are handled by `decode`, whose second byte is fixed. Each line is a mask and a match of the opcode table. -/
def opcodes3 (c : Config) (b : Byte) : Form :=
  let w := widthBit b 0
  let r := lowField b
  if b &&& 0xFE = 0xC0 then .ifPart c .ext80286 (.ext (shiftImmGroup w))
  else if b = 0xC2 then .plain (.word .retPop)
  else if b = 0xC3 then .op .ret
  else if b = 0xC4 then .modrm fun r rm => .memory rm (.done (.les r rm))
  else if b = 0xC5 then .modrm fun r rm => .memory rm (.done (.lds r rm))
  else if b &&& 0xFE = 0xC6 then .ext fun rm => onlyExt0 (.imm w (.movRmImm w rm))
  else if b = 0xCA then .plain (.word .retFarPop)
  else if b = 0xCB then .op .retFar
  else if b = 0xCC then .op .int3
  else if b = 0xCD then .plain (.byte .intN)
  else if b = 0xCE then .op .into
  else if b = 0xCF then .op .iret
  else if b &&& 0xFC = 0xD0 then .ext (shiftGroup (countBit b) w)
  else if b = 0xD7 then .op .xlat
  else if b &&& 0xF8 = 0xD8 then .modrm (escTail c r)
  else if b = 0xE0 then .plain (.byte .loopne)
  else if b = 0xE1 then .plain (.byte .loope)
  else if b = 0xE2 then .plain (.byte .loop)
  else if b = 0xE3 then .plain (.byte .jcxz)
  else if b &&& 0xFE = 0xE4 then .plain (.byte (.inFixed w))
  else if b &&& 0xFE = 0xE6 then .plain (.byte (.outFixed w))
  else if b = 0xE8 then .plain (.word .callNear)
  else if b = 0xE9 then .plain (.word .jmpNear)
  else if b = 0xEA then .plain (.far .jmpFar)
  else if b = 0xEB then .plain (.byte .jmpShort)
  else if b &&& 0xFE = 0xEC then .op (.inDx w)
  else if b &&& 0xFE = 0xEE then .op (.outDx w)
  else if b = 0xF0 then .op .lock
  else if b = 0xF2 then .op .repne
  else if b = 0xF3 then .op .rep
  else if b = 0xF4 then .op .hlt
  else if b = 0xF5 then .op .cmc
  else if b &&& 0xFE = 0xF6 then .ext (unaryGroup w)
  else if b = 0xF8 then .op .clc
  else if b = 0xF9 then .op .stc
  else if b = 0xFA then .op .cli
  else if b = 0xFB then .op .sti
  else if b = 0xFC then .op .cld
  else if b = 0xFD then .op .std
  else if b = 0xFE then .ext incGroupByte
  else if b = 0xFF then .ext incGroupWord
  else Form.noRow

/-- The row of a first byte, by its two top bits (R140). -/
def opcodes (c : Config) (b : Byte) : Form :=
  match (b.extractLsb' 6 2).toNat with
  | 0 => opcodes0 b
  | 1 => opcodes1 c b
  | 2 => opcodes2 b
  | _ => opcodes3 c b

/-- The second opcode byte after 0F (R142). 0F B7 and 0F BF, the doubleword forms, have no row (R489). -/
def opcodes0F (b : Byte) : Form :=
  if b &&& 0xF0 = 0x90 then .ext fun rm => onlyExt0 (.done (setcc (b.extractLsb' 0 4) rm))
  else if b = 0xA3 then .modrm fun r rm => .done (.bt rm r)
  else if b = 0xA4 then .modrm fun r rm => .byte (.shldImm rm r)
  else if b = 0xA5 then .modrm fun r rm => .done (.shldCl rm r)
  else if b = 0xAB then .modrm fun r rm => .done (.bts rm r)
  else if b = 0xAC then .modrm fun r rm => .byte (.shrdImm rm r)
  else if b = 0xAD then .modrm fun r rm => .done (.shrdCl rm r)
  else if b = 0xB3 then .modrm fun r rm => .done (.btr rm r)
  else if b = 0xB6 then .modrm fun r rm => .done (.movzx r rm)
  else if b = 0xBA then .ext bitGroup
  else if b = 0xBB then .modrm fun r rm => .done (.btc rm r)
  else if b = 0xBC then .modrm fun r rm => .done (.bsf r rm)
  else if b = 0xBD then .modrm fun r rm => .done (.bsr r rm)
  else if b = 0xBE then .modrm fun r rm => .done (.movsx r rm)
  else Form.noRow

/-! ## Reading the bytes -/

/-- A decoded instruction and the bytes after it, or the reason for the refusal. -/
abbrev Decoded := Except DecodeError (Instr × List Byte)

/-- The operand of MOD and R/M, with its displacement bytes (R117 to R119). -/
def parseRm (m : BitVec 2) (f : Bits3) (bs : List Byte) : Option (Rm × List Byte) :=
  match m.toNat, bs with
  | 0, bs =>
    if f = .b110 then
      match bs with
      | lo :: hi :: bs => some (.direct (joinBytes hi lo), bs)
      | _ => none
    else some (.base (.ofField f), bs)
  | 1, d :: bs => some (.disp8 (.ofField f) d, bs)
  | 1, [] => none
  | 2, lo :: hi :: bs => some (.disp16 (.ofField f) (joinBytes hi lo), bs)
  | 2, _ => none
  | _, bs => some (.reg f, bs)

/-- The MOD REG R/M byte and its displacement: REG, the operand, the bytes after (R112, R124). -/
def parseModRM : List Byte → Option (Bits3 × Rm × List Byte)
  | [] => none
  | b :: bs => (parseRm (b.extractLsb' 6 2) (lowField b) bs).map fun (rm, bs) => (midField b, rm, bs)

/-- The trailing operand bytes (R122, R123). -/
def Tail.parse : Tail → List Byte → Decoded
  | .done i, bs => .ok (i, bs)
  | .bad e, _ => .error e
  | .byte k, b :: bs => .ok (k b, bs)
  | .byte _, [] => .error .truncated
  | .word k, lo :: hi :: bs => .ok (k (joinBytes hi lo), bs)
  | .word _, _ => .error .truncated
  | .far k, olo :: ohi :: slo :: shi :: bs => .ok (k (joinBytes ohi olo) (joinBytes shi slo), bs)
  | .far _, _ => .error .truncated

/-- The bytes after the opcode. An undefined extension whose displacement bytes a reset cuts off is truncated, so
the reset happens, although the ModRM byte has shown that it is undefined: the operand is read whole before the
extension is looked at (R150, R540 give no order; DESIGN CHOICE, log 15). -/
def Form.parse : Form → List Byte → Decoded
  | .plain t, bs => t.parse bs
  | .modrm k, bs =>
    match parseModRM bs with
    | some (r, rm, bs) => (k r rm).parse bs
    | none => .error .truncated

/-- The second byte of AAM and AAD is 0Ah (R265, R266, R150 item 5). -/
def fixed0A (i : Instr) : List Byte → Decoded
  | [] => .error .truncated
  | b :: bs => if b = 0x0A then .ok (i, bs) else .error .fixedByte

/-- The two-byte opcodes (R127). -/
def decode0F : List Byte → Decoded
  | [] => .error .truncated
  | b :: bs => (opcodes0F b).parse bs

/-- The instruction at the head of the bytes, and the bytes after it (R110, R124, R125). A prefix byte is
an instruction of its own here (log 6). -/
def decode (c : Config) : List Byte → Decoded
  | [] => .error .truncated
  | b :: bs =>
    if b = 0x0F then (if c.decodes .ext80386 then decode0F bs else .error .undefinedOpcode)
    else if b = 0xD4 then fixed0A .aam bs
    else if b = 0xD5 then fixed0A .aad bs
    else (opcodes c b).parse bs

/-- The number of bytes of the longest instruction without its prefixes (R125: opcode 2, second byte 1,
displacement 2, data 1, or 1, 1, 2 and 2). -/
def maxLength : Nat := 6

/-- Byte k of an instruction whose bits are `w`, bit 0 the least significant bit of the first byte. -/
def wordByte (w k : Nat) : Byte := BitVec.ofNat 8 (w / 256 ^ k)

/-- The bytes of an instruction of `nbits` bits, the bits above them zero, up to the longest instruction. -/
def tableBytes (nbits w : Nat) : List Byte :=
  (List.range maxLength).map (wordByte (w % 2 ^ nbits))

/-- What the decoder of the reset configuration reads from the bits of a table row. -/
def decodeTableWord (nbits w : Nat) : Option Instr :=
  match decode Machine.resetConfig (tableBytes nbits w) with
  | .ok (i, _) => some i
  | .error _ => none

/-! ## The encoder -/

/-- The W bit. -/
def Width.bit : Width → BitVec 1
  | .byte => 0
  | .word => 1

/-- The D bit. -/
def Dir.bit : Dir → BitVec 1
  | .toRm => 0
  | .toReg => 1

/-- The v bit. -/
def ShiftCount.bit : ShiftCount → BitVec 1
  | .one => 0
  | .cl => 1

/-- An opcode byte with the W bit in bit 0. -/
def opW (b : Byte) (w : Width) : Byte := b ||| w.bit.setWidth 8

/-- An opcode byte with the D bit in bit 1 and the W bit in bit 0. -/
def opDW (b : Byte) (d : Dir) (w : Width) : Byte := b ||| (d.bit ++ w.bit).setWidth 8

/-- An opcode byte with the v bit in bit 1 and the W bit in bit 0. -/
def opVW (b : Byte) (v : ShiftCount) (w : Width) : Byte := b ||| (v.bit ++ w.bit).setWidth 8

/-- An opcode byte with a register number in bits 2 to 0. -/
def opReg (b : Byte) (r : Bits3) : Byte := b ||| r.bits.setWidth 8

/-- An opcode byte with the W bit in bit 3 and a register number in bits 2 to 0. -/
def opW8 (b : Byte) (w : Width) (r : Bits3) : Byte := b ||| (w.bit ++ r.bits).setWidth 8

/-- A word, its low byte first (R74). -/
def wordBytes (v : Word) : List Byte := [lowByte v, highByte v]

/-- An immediate of the width the W bit gives, low byte first (R122). -/
def immBytes : (w : Width) → BitVec w.bits → List Byte
  | .byte, v => [v]
  | .word, v => wordBytes v

/-- The MOD REG R/M byte. -/
def modrmByte (m : BitVec 2) (r f : Bits3) : Byte := m ++ r.bits ++ f.bits

/-- The MOD REG R/M byte of an operand with its displacement (R112, R117, R119). -/
def modrm (r : Bits3) : Rm → List Byte
  | .reg n => [modrmByte 0b11 r n]
  | .direct d => modrmByte 0b00 r .b110 :: wordBytes d
  | .base b => [modrmByte 0b00 r b.field]
  | .disp8 b d => [modrmByte 0b01 r b.field, d]
  | .disp16 b d => modrmByte 0b10 r b.field :: wordBytes d

/-- The bytes of an instruction, from the same encodings of the opcode table. -/
def encode : Instr → List Byte
  | .addRm d w rm r => opDW 0x00 d w :: modrm r rm
  | .addAcc w imm => opW 0x04 w :: immBytes w imm
  | .addImm w rm imm => opW 0x80 w :: (modrm .b000 rm ++ immBytes w imm)
  | .addImmS rm imm8 => 0x83 :: (modrm .b000 rm ++ [imm8])
  | .orRm d w rm r => opDW 0x08 d w :: modrm r rm
  | .orAcc w imm => opW 0x0C w :: immBytes w imm
  | .orImm w rm imm => opW 0x80 w :: (modrm .b001 rm ++ immBytes w imm)
  | .adcRm d w rm r => opDW 0x10 d w :: modrm r rm
  | .adcAcc w imm => opW 0x14 w :: immBytes w imm
  | .adcImm w rm imm => opW 0x80 w :: (modrm .b010 rm ++ immBytes w imm)
  | .adcImmS rm imm8 => 0x83 :: (modrm .b010 rm ++ [imm8])
  | .sbbRm d w rm r => opDW 0x18 d w :: modrm r rm
  | .sbbAcc w imm => opW 0x1C w :: immBytes w imm
  | .sbbImm w rm imm => opW 0x80 w :: (modrm .b011 rm ++ immBytes w imm)
  | .sbbImmS rm imm8 => 0x83 :: (modrm .b011 rm ++ [imm8])
  | .andRm d w rm r => opDW 0x20 d w :: modrm r rm
  | .andAcc w imm => opW 0x24 w :: immBytes w imm
  | .andImm w rm imm => opW 0x80 w :: (modrm .b100 rm ++ immBytes w imm)
  | .subRm d w rm r => opDW 0x28 d w :: modrm r rm
  | .subAcc w imm => opW 0x2C w :: immBytes w imm
  | .subImm w rm imm => opW 0x80 w :: (modrm .b101 rm ++ immBytes w imm)
  | .subImmS rm imm8 => 0x83 :: (modrm .b101 rm ++ [imm8])
  | .xorRm d w rm r => opDW 0x30 d w :: modrm r rm
  | .xorAcc w imm => opW 0x34 w :: immBytes w imm
  | .xorImm w rm imm => opW 0x80 w :: (modrm .b110 rm ++ immBytes w imm)
  | .cmpRm d w rm r => opDW 0x38 d w :: modrm r rm
  | .cmpAcc w imm => opW 0x3C w :: immBytes w imm
  | .cmpImm w rm imm => opW 0x80 w :: (modrm .b111 rm ++ immBytes w imm)
  | .cmpImmS rm imm8 => 0x83 :: (modrm .b111 rm ++ [imm8])
  | .pushEs => [0x06]
  | .popEs => [0x07]
  | .pushCs => [0x0E]
  | .pushSs => [0x16]
  | .popSs => [0x17]
  | .pushDs => [0x1E]
  | .popDs => [0x1F]
  | .segEs => [0x26]
  | .segCs => [0x2E]
  | .segSs => [0x36]
  | .segDs => [0x3E]
  | .daa => [0x27]
  | .das => [0x2F]
  | .aaa => [0x37]
  | .aas => [0x3F]
  | .incReg r => [opReg 0x40 r]
  | .decReg r => [opReg 0x48 r]
  | .pushReg r => [opReg 0x50 r]
  | .popReg r => [opReg 0x58 r]
  | .jo disp8 => [0x70, disp8]
  | .jno disp8 => [0x71, disp8]
  | .jb disp8 => [0x72, disp8]
  | .jae disp8 => [0x73, disp8]
  | .je disp8 => [0x74, disp8]
  | .jne disp8 => [0x75, disp8]
  | .jbe disp8 => [0x76, disp8]
  | .ja disp8 => [0x77, disp8]
  | .js disp8 => [0x78, disp8]
  | .jns disp8 => [0x79, disp8]
  | .jp disp8 => [0x7A, disp8]
  | .jnp disp8 => [0x7B, disp8]
  | .jl disp8 => [0x7C, disp8]
  | .jge disp8 => [0x7D, disp8]
  | .jle disp8 => [0x7E, disp8]
  | .jg disp8 => [0x7F, disp8]
  | .testRm w rm r => opW 0x84 w :: modrm r rm
  | .xchgRm w rm r => opW 0x86 w :: modrm r rm
  | .movRm d w rm r => opDW 0x88 d w :: modrm r rm
  | .movRmSeg rm sr => 0x8C :: modrm sr.field rm
  | .lea r rm => 0x8D :: modrm r rm
  | .movSegRm sr rm => 0x8E :: modrm sr.field rm
  | .popRm rm => 0x8F :: modrm .b000 rm
  | .nop => [0x90]
  | .xchgAcc r => [opReg 0x90 r]
  | .cbw => [0x98]
  | .cwd => [0x99]
  | .callFar off sg => 0x9A :: (wordBytes off ++ wordBytes sg)
  | .wait => [0x9B]
  | .pushf => [0x9C]
  | .popf => [0x9D]
  | .sahf => [0x9E]
  | .lahf => [0x9F]
  | .movAccMem w addr => opW 0xA0 w :: wordBytes addr
  | .movMemAcc w addr => opW 0xA2 w :: wordBytes addr
  | .movs w => [opW 0xA4 w]
  | .cmps w => [opW 0xA6 w]
  | .stos w => [opW 0xAA w]
  | .lods w => [opW 0xAC w]
  | .scas w => [opW 0xAE w]
  | .testAcc w imm => opW 0xA8 w :: immBytes w imm
  | .movRegImm w r imm => opW8 0xB0 w r :: immBytes w imm
  | .retPop pop => 0xC2 :: wordBytes pop
  | .ret => [0xC3]
  | .les r rm => 0xC4 :: modrm r rm
  | .lds r rm => 0xC5 :: modrm r rm
  | .movRmImm w rm imm => opW 0xC6 w :: (modrm .b000 rm ++ immBytes w imm)
  | .retFarPop pop => 0xCA :: wordBytes pop
  | .retFar => [0xCB]
  | .int3 => [0xCC]
  | .intN t => [0xCD, t]
  | .into => [0xCE]
  | .iret => [0xCF]
  | .rol v w rm => opVW 0xD0 v w :: modrm .b000 rm
  | .ror v w rm => opVW 0xD0 v w :: modrm .b001 rm
  | .rcl v w rm => opVW 0xD0 v w :: modrm .b010 rm
  | .rcr v w rm => opVW 0xD0 v w :: modrm .b011 rm
  | .shl v w rm => opVW 0xD0 v w :: modrm .b100 rm
  | .shr v w rm => opVW 0xD0 v w :: modrm .b101 rm
  | .sar v w rm => opVW 0xD0 v w :: modrm .b111 rm
  | .aam => [0xD4, 0x0A]
  | .aad => [0xD5, 0x0A]
  | .xlat => [0xD7]
  | .esc x1 x2 rm => opReg 0xD8 x1 :: modrm x2 rm
  | .loopne disp8 => [0xE0, disp8]
  | .loope disp8 => [0xE1, disp8]
  | .loop disp8 => [0xE2, disp8]
  | .jcxz disp8 => [0xE3, disp8]
  | .inFixed w port => [opW 0xE4 w, port]
  | .outFixed w port => [opW 0xE6 w, port]
  | .callNear disp16 => 0xE8 :: wordBytes disp16
  | .jmpNear disp16 => 0xE9 :: wordBytes disp16
  | .jmpFar off sg => 0xEA :: (wordBytes off ++ wordBytes sg)
  | .jmpShort disp8 => [0xEB, disp8]
  | .inDx w => [opW 0xEC w]
  | .outDx w => [opW 0xEE w]
  | .lock => [0xF0]
  | .repne => [0xF2]
  | .rep => [0xF3]
  | .hlt => [0xF4]
  | .cmc => [0xF5]
  | .testImm w rm imm => opW 0xF6 w :: (modrm .b000 rm ++ immBytes w imm)
  | .not w rm => opW 0xF6 w :: modrm .b010 rm
  | .neg w rm => opW 0xF6 w :: modrm .b011 rm
  | .mul w rm => opW 0xF6 w :: modrm .b100 rm
  | .imul w rm => opW 0xF6 w :: modrm .b101 rm
  | .div w rm => opW 0xF6 w :: modrm .b110 rm
  | .idiv w rm => opW 0xF6 w :: modrm .b111 rm
  | .clc => [0xF8]
  | .stc => [0xF9]
  | .cli => [0xFA]
  | .sti => [0xFB]
  | .cld => [0xFC]
  | .std => [0xFD]
  | .incRm w rm => opW 0xFE w :: modrm .b000 rm
  | .decRm w rm => opW 0xFE w :: modrm .b001 rm
  | .callInd rm => 0xFF :: modrm .b010 rm
  | .callFarInd rm => 0xFF :: modrm .b011 rm
  | .jmpInd rm => 0xFF :: modrm .b100 rm
  | .jmpFarInd rm => 0xFF :: modrm .b101 rm
  | .pushRm rm => 0xFF :: modrm .b110 rm
  | .pusha => [0x60]
  | .popa => [0x61]
  | .pushImm16 imm16 => 0x68 :: wordBytes imm16
  | .pushImm8 imm8 => [0x6A, imm8]
  | .imul3 r rm imm16 => 0x69 :: (modrm r rm ++ wordBytes imm16)
  | .imul3S r rm imm8 => 0x6B :: (modrm r rm ++ [imm8])
  | .ins w => [opW 0x6C w]
  | .outs w => [opW 0x6E w]
  | .rolImm w rm cnt => opW 0xC0 w :: (modrm .b000 rm ++ [cnt])
  | .rorImm w rm cnt => opW 0xC0 w :: (modrm .b001 rm ++ [cnt])
  | .rclImm w rm cnt => opW 0xC0 w :: (modrm .b010 rm ++ [cnt])
  | .rcrImm w rm cnt => opW 0xC0 w :: (modrm .b011 rm ++ [cnt])
  | .shlImm w rm cnt => opW 0xC0 w :: (modrm .b100 rm ++ [cnt])
  | .shrImm w rm cnt => opW 0xC0 w :: (modrm .b101 rm ++ [cnt])
  | .sarImm w rm cnt => opW 0xC0 w :: (modrm .b111 rm ++ [cnt])
  | .bsf r rm => 0x0F :: 0xBC :: modrm r rm
  | .bsr r rm => 0x0F :: 0xBD :: modrm r rm
  | .bt rm r => 0x0F :: 0xA3 :: modrm r rm
  | .bts rm r => 0x0F :: 0xAB :: modrm r rm
  | .btr rm r => 0x0F :: 0xB3 :: modrm r rm
  | .btc rm r => 0x0F :: 0xBB :: modrm r rm
  | .btImm rm imm8 => 0x0F :: 0xBA :: (modrm .b100 rm ++ [imm8])
  | .btsImm rm imm8 => 0x0F :: 0xBA :: (modrm .b101 rm ++ [imm8])
  | .btrImm rm imm8 => 0x0F :: 0xBA :: (modrm .b110 rm ++ [imm8])
  | .btcImm rm imm8 => 0x0F :: 0xBA :: (modrm .b111 rm ++ [imm8])
  | .movsx r rm => 0x0F :: 0xBE :: modrm r rm
  | .movzx r rm => 0x0F :: 0xB6 :: modrm r rm
  | .seto rm => 0x0F :: 0x90 :: modrm .b000 rm
  | .setno rm => 0x0F :: 0x91 :: modrm .b000 rm
  | .setb rm => 0x0F :: 0x92 :: modrm .b000 rm
  | .setae rm => 0x0F :: 0x93 :: modrm .b000 rm
  | .sete rm => 0x0F :: 0x94 :: modrm .b000 rm
  | .setne rm => 0x0F :: 0x95 :: modrm .b000 rm
  | .setbe rm => 0x0F :: 0x96 :: modrm .b000 rm
  | .seta rm => 0x0F :: 0x97 :: modrm .b000 rm
  | .sets rm => 0x0F :: 0x98 :: modrm .b000 rm
  | .setns rm => 0x0F :: 0x99 :: modrm .b000 rm
  | .setp rm => 0x0F :: 0x9A :: modrm .b000 rm
  | .setnp rm => 0x0F :: 0x9B :: modrm .b000 rm
  | .setl rm => 0x0F :: 0x9C :: modrm .b000 rm
  | .setge rm => 0x0F :: 0x9D :: modrm .b000 rm
  | .setle rm => 0x0F :: 0x9E :: modrm .b000 rm
  | .setg rm => 0x0F :: 0x9F :: modrm .b000 rm
  | .shldImm rm r cnt => 0x0F :: 0xA4 :: (modrm r rm ++ [cnt])
  | .shldCl rm r => 0x0F :: 0xA5 :: modrm r rm
  | .shrdImm rm r cnt => 0x0F :: 0xAC :: (modrm r rm ++ [cnt])
  | .shrdCl rm r => 0x0F :: 0xAD :: modrm r rm
  | .faddM32 rm => 0xD8 :: modrm .b000 rm
  | .faddM64 rm => 0xDC :: modrm .b000 rm
  | .faddStSti sti => 0xD8 :: modrm .b000 (.reg sti)
  | .faddStiSt sti => 0xDC :: modrm .b000 (.reg sti)
  | .faddP => [0xDE, 0xC1]
  | .fmulM32 rm => 0xD8 :: modrm .b001 rm
  | .fmulM64 rm => 0xDC :: modrm .b001 rm
  | .fmulStSti sti => 0xD8 :: modrm .b001 (.reg sti)
  | .fmulStiSt sti => 0xDC :: modrm .b001 (.reg sti)
  | .fmulP => [0xDE, 0xC9]
  | .fsubM32 rm => 0xD8 :: modrm .b100 rm
  | .fsubM64 rm => 0xDC :: modrm .b100 rm
  | .fsubStSti sti => 0xD8 :: modrm .b100 (.reg sti)
  | .fsubStiSt sti => 0xDC :: modrm .b101 (.reg sti)
  | .fsubP => [0xDE, 0xE9]
  | .fdivM32 rm => 0xD8 :: modrm .b110 rm
  | .fdivM64 rm => 0xDC :: modrm .b110 rm
  | .fdivStSti sti => 0xD8 :: modrm .b110 (.reg sti)
  | .fdivStiSt sti => 0xDC :: modrm .b111 (.reg sti)
  | .fdivP => [0xDE, 0xF9]
  | .fiaddM16 rm => 0xDE :: modrm .b000 rm
  | .fiaddM32 rm => 0xDA :: modrm .b000 rm
  | .fimulM16 rm => 0xDE :: modrm .b001 rm
  | .fimulM32 rm => 0xDA :: modrm .b001 rm
  | .fisubM16 rm => 0xDE :: modrm .b100 rm
  | .fisubM32 rm => 0xDA :: modrm .b100 rm
  | .fidivM16 rm => 0xDE :: modrm .b110 rm
  | .fidivM32 rm => 0xDA :: modrm .b110 rm
  | .fildM16 rm => 0xDF :: modrm .b000 rm
  | .fildM32 rm => 0xDB :: modrm .b000 rm
  | .fildM64 rm => 0xDF :: modrm .b101 rm
  | .fistM16 rm => 0xDF :: modrm .b010 rm
  | .fistM32 rm => 0xDB :: modrm .b010 rm
  | .fistpM16 rm => 0xDF :: modrm .b011 rm
  | .fistpM32 rm => 0xDB :: modrm .b011 rm
  | .fistpM64 rm => 0xDF :: modrm .b111 rm
  | .fldM32 rm => 0xD9 :: modrm .b000 rm
  | .fldM64 rm => 0xDD :: modrm .b000 rm
  | .fldM80 rm => 0xDB :: modrm .b101 rm
  | .fldSti sti => 0xD9 :: modrm .b000 (.reg sti)
  | .fstM32 rm => 0xD9 :: modrm .b010 rm
  | .fstM64 rm => 0xDD :: modrm .b010 rm
  | .fstSti sti => 0xDD :: modrm .b010 (.reg sti)
  | .fstpM32 rm => 0xD9 :: modrm .b011 rm
  | .fstpM64 rm => 0xDD :: modrm .b011 rm
  | .fstpM80 rm => 0xDB :: modrm .b111 rm
  | .fstpSti sti => 0xDD :: modrm .b011 (.reg sti)
  | .fbld rm => 0xDF :: modrm .b100 rm
  | .fbstp rm => 0xDF :: modrm .b110 rm

end Sys2Proof
end

