-- ==== Sys2Proof/Machine/State.lean ====
section
/-! DEFINITION. The state of the machine (10_state), its stops, and the state after reset. -/

namespace Sys2Proof.Machine

/-- The general registers (R20), the instruction pointer (R24) and the segment registers (R27). -/
structure Regs where
  ax : Word
  cx : Word
  dx : Word
  bx : Word
  sp : Word
  bp : Word
  si : Word
  di : Word
  /-- The offset of the next instruction. While a meaning runs it is `IPnext` of R24 (log 7). -/
  ip : Word
  es : Word
  cs : Word
  ss : Word
  ds : Word
  deriving DecidableEq, Repr

/-- A repeated string instruction between two of its iterations (R339, log 8). The model's own. -/
structure Repeat where
  /-- The string instruction. -/
  instr : Instr
  /-- The offset after it. -/
  ipNext : Word
  deriving DecidableEq, Repr

/-- The hidden state of the processor (10_state section 6). -/
structure Control where
  /-- R46 -/
  run : RunState
  /-- `inhibit_once` (R48, R510); between which boundaries it stands is log 37. -/
  inhibit : Bool
  /-- R49 -/
  pfx : Prefixes
  /-- `IP_at_start` of R24: the offset of the current instruction's first byte, prefixes included. -/
  startIp : Word
  /-- The repetition under way (log 8). -/
  resume : Option Repeat
  /-- The bus lock (R50): no other agent's access falls between two accesses of the processor (R92; log 23). -/
  busLock : Bool
  /-- What prefetch may still hold: the bytes stored to within PREFETCH_BYTES after their storing instruction
  since the last control transfer, each with its address and the byte from before, the latest first (R95,
  R552; log 5). The model's own. -/
  stale : List Host.Cell
  deriving DecidableEq, Repr

/-- What the environment does with the maskable request line before a step (R47, R510). -/
inductive IntrInput
  | keep
  /-- Request, with the type it supplies. -/
  | request (t : Byte)
  | withdraw
  deriving DecidableEq, Repr

/-- What comes from outside between two accesses of the processor (R90, R534, R540; log 15, log 24). -/
inductive BusEvent
  /-- Other agents store bytes, in order. -/
  | stores (cells : List Host.Cell)
  /-- The reset input in the middle of an instruction. -/
  | reset
  deriving DecidableEq, Repr

/-- The environment's inputs of one step (R47, R90, R408, R540; log 15). The model's own. -/
structure Input where
  /-- The reset input before the step (R540). -/
  reset : Bool
  /-- A non-maskable request (R47). -/
  nmi : Bool
  /-- The maskable request line (R47). -/
  intr : IntrInput
  /-- A change of TEST_ready (R408). -/
  testReady : Option Bool
  /-- Bytes that other bus agents store before the step (R90, R534). -/
  writes : List Host.Cell
  /-- What comes before the first, the second, ... byte access of the step (R90, R534, R540). -/
  bus : List BusEvent
  deriving DecidableEq, Repr

/-- The inputs of the environment as the processor sees them. -/
structure Env where
  /-- `NMI_pending` (R47). -/
  nmiPending : Bool
  /-- `INTR_pending` (R47). -/
  intrPending : Bool
  /-- The type the environment supplies with the maskable request (R47). -/
  intrType : Byte
  /-- `TEST_ready` (R5, R408). -/
  testReady : Bool
  /-- The inputs of the steps to come; when the list is over, nothing more arrives (log 15). -/
  inputs : List Input
  /-- What comes before the byte accesses to come of the step under way, one event for each; empty between
  steps (log 24). A reset stays at the head: the instruction it meets reaches the bus no more (R540). -/
  bus : List BusEvent
  /-- Stores of other agents that wait for a locked bus, the oldest first (R92; log 23). -/
  held : List Host.Cell
  /-- The answers to the port reads to come; when the list is over, an answer is a free value (log 13). -/
  portIn : List Byte
  deriving DecidableEq, Repr

/-- One access to the I/O space (R78, R565). -/
inductive IoEvent
  | input (port : Word) (value : Byte)
  | output (port : Word) (value : Byte)
  deriving DecidableEq, Repr

/-- The state of the machine. -/
structure State where
  regs : Regs
  flags : Flags
  ctl : Control
  env : Env
  /-- Memory (R71), in the canonical form of Machine/Memory.lean. -/
  mem : List Host.Cell
  /-- The accesses to the I/O space so far, the latest first (R78, R565). -/
  io : List IoEvent
  /-- The 8087 register stack, ST(0) first; `none` is an empty register (R55, R420). -/
  fpu : List (Option TReal)
  /-- How many free values have been drawn (log 9). The model's own. -/
  draws : Nat
  /-- The parameters of R5; no step changes them (log 1). -/
  cfg : Config
  deriving DecidableEq, Repr

/-- The faults that end a run. There is none: the spec's one fault is the divide error, which is
interrupt 0 (R500, R536). -/
inductive Fault
  deriving DecidableEq, Repr

/-- Why a step has no next state: the spec's `refuse` (R565 (b)). -/
inductive Refusal
  /-- An instruction without a meaning. No arm answers so. Safe. -/
  | notModelled (mnemonic : String)
  /-- The decoder refuses the bytes at CS:IP (R150, R28, R126). Raised by the step. Safe. -/
  | encoding (e : DecodeError)
  /-- A second prefix of one class before one opcode (R126, D18). Raised by the prefixes. Safe. -/
  | duplicatePrefix
  /-- REP or REPNE before an instruction that is no string instruction (R126, R338). Raised by the step. Safe. -/
  | repBeforeNonString
  /-- A register where the instruction needs a memory operand (R150 item 6, D39; for the 8087 rows R424).
  The decoder never gives such a term. Raised by LEA, LDS, LES, far CALL and JMP indirect and the 8087
  memory forms. Safe. -/
  | registerOperand
  /-- MOV to CS (R28, D15). The decoder never gives such a term. Raised by MOV to a segment register. Safe. -/
  | csDestination
  /-- A push on the 8087 stack whose bottom register is occupied (R420; log 21). Raised by FLD, FILD, FBLD. Safe. -/
  | fpuStackFull
  /-- A read of an empty 8087 register (R420). Raised by the 8087 instructions. Safe. -/
  | fpuStackEmpty
  /-- A write of ST(i) with i not below ST_DEPTH (R55; log 21). Raised by FST and FSTP to a register, and
  only where ST_DEPTH is below 8. Safe. -/
  | fpuNoRegister
  deriving DecidableEq, Repr

/-- The registers the parameter RESET names (R60); the general registers are those of `g`. -/
def ResetValues.regs (r : ResetValues) (g : Regs) : Regs :=
  { g with ip := r.ip, cs := r.cs, ds := r.ds, es := r.es, ss := r.ss }

/-- The hidden state after reset (R60, R540): the run state, shadow and prefix state of the parameter RESET;
nothing is under way, the bus is free and nothing is prefetched (R50, R552). IP_at_start is 0000h (log 7). -/
def ResetValues.control (r : ResetValues) : Control where
  run := r.run
  inhibit := r.inhibit
  pfx := r.pfx
  startIp := 0
  resume := none
  busLock := false
  stale := []

/-- The machine right after reset (R60). The general registers are 0000h (DESIGN CHOICE, log 2), the
configuration is `resetConfig` (log 1), memory lists nothing (log 4), the environment is quiet (log 15,
log 17). -/
def State.reset : State where
  regs := resetConfig.reset.regs {
    ax := 0, cx := 0, dx := 0, bx := 0, sp := 0, bp := 0, si := 0, di := 0
    ip := 0, es := 0, cs := 0, ss := 0, ds := 0 }
  flags := resetConfig.reset.flags
  ctl := resetConfig.reset.control
  env := {
    nmiPending := resetConfig.reset.nmiPending, intrPending := resetConfig.reset.intrPending
    intrType := 0, testReady := true, inputs := [], bus := [], held := [], portIn := [] }
  mem := []
  io := []
  fpu := List.replicate resetConfig.stDepth resetConfig.reset.st
  draws := 0
  cfg := resetConfig

end Sys2Proof.Machine
end

