-- ==== Sys2Proof/Machine/Flags.lean ====
section
/-! DEFINITION. Every flag computation of the spec: the FLAGS image (R40), the flags of an addition, a
subtraction, a logical operation (R241 to R243, R290), the conditions (R143), and the undefined flags as
free values (R9, D9; log 9, log 32). -/

namespace Sys2Proof.Machine

/-! ## The FLAGS register as a word -/

/-- A flag at its place in the word (R29). -/
def flagBit (b : Bool) (k : Nat) : Word := if b then 1#16 <<< k else 0

/-- `FLAGS_image` (R40). -/
def Flags.image (f : Flags) (fixed : Word) : Word :=
  (fixed &&& 0xF02A) ||| flagBit f.OF 11 ||| flagBit f.DF 10 ||| flagBit f.IF 9 ||| flagBit f.TF 8 |||
    flagBit f.SF 7 ||| flagBit f.ZF 6 ||| flagBit f.AF 4 ||| flagBit f.PF 2 ||| flagBit f.CF 0

/-- The nine flags of a word popped into FLAGS; its other bits are ignored (R40, R213, R375). -/
def Flags.ofWord (v : Word) : Flags where
  CF := v.getLsbD 0
  PF := v.getLsbD 2
  AF := v.getLsbD 4
  ZF := v.getLsbD 6
  SF := v.getLsbD 7
  TF := v.getLsbD 8
  IF := v.getLsbD 9
  DF := v.getLsbD 10
  OF := v.getLsbD 11

/-- SAHF: the five flags of AH (R215). -/
def Flags.setLow (f : Flags) (ah : Byte) : Flags :=
  { f with
    SF := ah.getLsbD 7, ZF := ah.getLsbD 6, AF := ah.getLsbD 4, PF := ah.getLsbD 2, CF := ah.getLsbD 0 }

/-! ## Results -/

/-- `parity_even8` (R8, R241): bits 7 to 0 hold an even number of ones. -/
def parityEven {n : Nat} (r : BitVec n) : Bool :=
  !(r.getLsbD 0 ^^ r.getLsbD 1 ^^ r.getLsbD 2 ^^ r.getLsbD 3 ^^
    r.getLsbD 4 ^^ r.getLsbD 5 ^^ r.getLsbD 6 ^^ r.getLsbD 7)

/-- `SetSZP_N` (R241). -/
def Flags.szp {n : Nat} (f : Flags) (r : BitVec n) : Flags :=
  { f with SF := r.msb, ZF := decide (r = 0), PF := parityEven r }

/-- A carry or borrow as a number. -/
def carryNat (c : Bool) : Nat := if c then 1 else 0

/-- The result of `Add_N` (R242). -/
def addResult {n : Nat} (a b : BitVec n) (c : Bool) : BitVec n :=
  BitVec.ofNat n (a.toNat + b.toNat + carryNat c)

/-- The flags of `Add_N` (R242). -/
def Flags.add {n : Nat} (f : Flags) (a b : BitVec n) (c : Bool) : Flags :=
  let r := addResult a b c
  { f.szp r with
    CF := decide (2 ^ n ≤ a.toNat + b.toNat + carryNat c)
    AF := decide (16 ≤ a.toNat % 16 + b.toNat % 16 + carryNat c)
    OF := (a.msb == b.msb) && (r.msb != a.msb) }

/-- The result of `Sub_N` (R243). -/
def subResult {n : Nat} (a b : BitVec n) (c : Bool) : BitVec n :=
  a - b - BitVec.ofNat n (carryNat c)

/-- The flags of `Sub_N` (R243). -/
def Flags.sub {n : Nat} (f : Flags) (a b : BitVec n) (c : Bool) : Flags :=
  let r := subResult a b c
  { f.szp r with
    CF := decide (a.toNat < b.toNat + carryNat c)
    AF := decide (a.toNat % 16 < b.toNat % 16 + carryNat c)
    OF := (a.msb != b.msb) && (r.msb != a.msb) }

/-- `Logic_N` (R290), with the free value of AF. -/
def Flags.logic {n : Nat} (f : Flags) (r : BitVec n) (af : Bool) : Flags :=
  { f.szp r with CF := false, OF := false, AF := af }

/-- CF and OF of a multiplication, and free values for the flags it leaves undefined (R254, R255, R450). -/
def Flags.multiply (f : Flags) (significant : Bool) (draw : Nat) : Flags :=
  { f with
    CF := significant
    OF := significant
    SF := Config.freeBit draw
    ZF := Config.freeBit (draw + 1)
    AF := Config.freeBit (draw + 2)
    PF := Config.freeBit (draw + 3) }

/-- All six status flags undefined (R256, R257, R482). -/
def Flags.undefined (f : Flags) (draw : Nat) : Flags :=
  { f with
    OF := Config.freeBit draw
    SF := Config.freeBit (draw + 1)
    ZF := Config.freeBit (draw + 2)
    AF := Config.freeBit (draw + 3)
    PF := Config.freeBit (draw + 4)
    CF := Config.freeBit (draw + 5) }

/-- The flags of AAA and AAS: AF and CF, and free values for OF, SF, ZF, PF (R263, R264). -/
def Flags.asciiAdjust (f : Flags) (adjust : Bool) (draw : Nat) : Flags :=
  { f with
    AF := adjust
    CF := adjust
    OF := Config.freeBit draw
    SF := Config.freeBit (draw + 1)
    ZF := Config.freeBit (draw + 2)
    PF := Config.freeBit (draw + 3) }

/-- The flags of AAD and AAM: SF, ZF, PF from the new AL, and free values for OF, AF, CF (R265, R266). -/
def Flags.asciiScale (f : Flags) (al : Byte) (draw : Nat) : Flags :=
  { f.szp al with
    OF := Config.freeBit draw
    AF := Config.freeBit (draw + 1)
    CF := Config.freeBit (draw + 2) }

/-! ## Conditions -/

/-- The sixteen conditions of R143. -/
inductive Cond
  | o
  | no
  | b
  | ae
  | e
  | ne
  | be
  | a
  | s
  | ns
  | p
  | np
  | l
  | ge
  | le
  | g
  deriving DecidableEq, Repr

/-- Whether a condition holds (R143). -/
def Cond.holds (f : Flags) : Cond → Bool
  | .o => f.OF
  | .no => !f.OF
  | .b => f.CF
  | .ae => !f.CF
  | .e => f.ZF
  | .ne => !f.ZF
  | .be => f.CF || f.ZF
  | .a => !f.CF && !f.ZF
  | .s => f.SF
  | .ns => !f.SF
  | .p => f.PF
  | .np => !f.PF
  | .l => f.SF ^^ f.OF
  | .ge => f.SF == f.OF
  | .le => (f.SF ^^ f.OF) || f.ZF
  | .g => !f.ZF && (f.SF == f.OF)

/-! ## Shifts and rotates -/

/-- The seven shifts and rotates (R300). -/
inductive ShiftOp
  | rol
  | ror
  | rcl
  | rcr
  | shl
  | shr
  | sar
  deriving DecidableEq, Repr

/-- The rotates write CF and OF only (R304). -/
def ShiftOp.isRotate : ShiftOp → Bool
  | .rol => true
  | .ror => true
  | .rcl => true
  | .rcr => true
  | .shl => false
  | .shr => false
  | .sar => false

/-- A bit as a number of n bits. -/
def bitVal (n : Nat) (b : Bool) : BitVec n := BitVec.ofNat n (carryNat b)

/-- A bit at the top of n bits. -/
def topBit (n : Nat) (b : Bool) : BitVec n := bitVal n b <<< (n - 1)

/-- One step: the destination and CF (R310 to R313, R320 to R322). -/
def ShiftOp.step {n : Nat} (op : ShiftOp) (x : BitVec n) (cf : Bool) : BitVec n × Bool :=
  match op with
  | .rcl => ((x <<< 1) ||| bitVal n cf, x.msb)
  | .rcr => (topBit n cf ||| (x >>> 1), x.getLsbD 0)
  | .rol => ((x <<< 1) ||| bitVal n x.msb, x.msb)
  | .ror => (topBit n (x.getLsbD 0) ||| (x >>> 1), x.getLsbD 0)
  | .shl => (x <<< 1, x.msb)
  | .sar => (topBit n x.msb ||| (x >>> 1), x.getLsbD 0)
  | .shr => (x >>> 1, x.getLsbD 0)

/-- `count` steps (R301). -/
def ShiftOp.steps {n : Nat} (op : ShiftOp) : Nat → BitVec n → Bool → BitVec n × Bool
  | 0, x, cf => (x, cf)
  | k + 1, x, cf => op.steps k (op.step x cf).1 (op.step x cf).2

/-- Whether the leftmost two bits differ. -/
def topTwoDiffer {n : Nat} (x : BitVec n) : Bool := x.getLsbD (n - 1) ^^ x.getLsbD (n - 2)

/-- OF when the count is 1, from the old and new destination and the new CF (R310 to R313, R320 to R322). -/
def ShiftOp.overflow {n : Nat} (op : ShiftOp) (old new : BitVec n) (cf : Bool) : Bool :=
  match op with
  | .rcl => topTwoDiffer old
  | .rcr => topTwoDiffer new
  | .rol => cf ^^ new.msb
  | .ror => topTwoDiffer new
  | .shl => cf ^^ new.msb
  | .sar => false
  | .shr => topTwoDiffer new

/-- The flags after `count` steps, at least one, from `old` to `new` (R302 to R304). -/
def ShiftOp.flags {n : Nat} (op : ShiftOp) (f : Flags) (count : Nat) (old new : BitVec n) (cf : Bool)
    (draw : Nat) : Flags :=
  let o := if count = 1 then op.overflow old new cf else Config.freeBit draw
  let g := { f with CF := cf, OF := o }
  if op.isRotate then g else { g.szp new with AF := Config.freeBit (draw + 1) }

end Sys2Proof.Machine
end

