-- ==== Sys2Proof/Machine/Memory.lean ====
section
/-! DEFINITION. Memory as a list of (address, byte) pairs in one canonical form: addresses strictly rising,
no entry equal to what an unlisted address reads as (R71, R73; log 4). Every address holds a byte that a
store replaces: the platform of the model has RAM everywhere (DESIGN CHOICE: R71 leaves it to the platform,
R536 to the environment's memory function; log 34). -/

namespace Sys2Proof.Machine

/-- What a byte that nothing has written reads as (R60 gives none). DESIGN CHOICE (log 4). -/
def Memory.blank : Byte := 0x00

/-- `MemRead(addr, 1)` (R73). -/
def Memory.read : List Host.Cell → Nat → Byte
  | [], _ => Memory.blank
  | (b, v) :: m, a => if a = b then v else Memory.read m a

/-- A cell, or nothing where the value is the blank one. -/
def Memory.cell (a : Nat) (v : Byte) (m : List Host.Cell) : List Host.Cell :=
  if v = Memory.blank then m else (a, v) :: m

/-- `MemWrite(addr, 1, v)` (R73). Every address keeps what is stored to it (DESIGN CHOICE, log 34). -/
def Memory.write : List Host.Cell → Nat → Byte → List Host.Cell
  | [], a, v => Memory.cell a v []
  | (b, x) :: m, a, v =>
    if a < b then Memory.cell a v ((b, x) :: m)
    else if a = b then Memory.cell a v m
    else (b, x) :: Memory.write m a v

/-- The addresses are above `lo`, strictly rising, and no value is the blank one. -/
def Memory.wfFrom (lo : Nat) : List Host.Cell → Bool
  | [] => true
  | (b, v) :: m => decide (lo ≤ b) && decide (v ≠ Memory.blank) && Memory.wfFrom (b + 1) m

/-- The canonical form. -/
def Memory.wf (m : List Host.Cell) : Bool := Memory.wfFrom 0 m

end Sys2Proof.Machine
end

