-- ==== Sys2Proof/Machine/Ops.lean ====
section
/-! DEFINITION. The shared operations over memory, the stack, the I/O space and the 8087 stack, and taking
an interrupt with the return from it. -/

namespace Sys2Proof.Machine

/-- The answer of a meaning. -/
abbrev Result := Host.Outcome State Fault Refusal

/-! ## Accesses

Before each byte access the next event of the environment comes (R82, R90, R534), one for each access. A
value read and the state after the read are two functions of the state before: `read16` and `accesses 2`. -/

/-- `phys(seg, off)` (R72). -/
def phys (c : Config) (seg off : Word) : Nat := (seg.toNat * 16 + off.toNat) % 2 ^ c.physBits

/-- Another agent's store of one byte (R90). It leaves `stale` as it is: no byte from before it can be fetched, but
one from before an earlier store of the processor within its window still can, on which R95 is silent (DESIGN
CHOICE, log 5). -/
def State.storeCell (s : State) (c : Host.Cell) : State :=
  { s with mem := Memory.write s.mem (c.1 % 2 ^ s.cfg.physBits) c.2 }

/-- Another agent's stores, in order. -/
def State.storeCells (s : State) : List Host.Cell → State
  | [] => s
  | c :: cs => (s.storeCell c).storeCells cs

/-- Other agents store, after the stores that waited; while the bus is locked all of them wait (R50, R90, R92;
log 23). -/
def State.agentStores (s : State) (cells : List Host.Cell) : State :=
  if s.ctl.busLock then { s with env := { s.env with held := s.env.held ++ cells } }
  else { s with env := { s.env with held := [] } }.storeCells (s.env.held ++ cells)

/-- The state in which the next byte access happens: the environment's next event has come (R90, R534). A
reset stays where it is (R540). -/
def State.access (s : State) : State :=
  match s.env.bus with
  | [] => s
  | .stores cells :: rest => { s with env := { s.env with bus := rest } }.agentStores cells
  | .reset :: _ => s

/-- The state after `n` byte accesses that change nothing themselves. -/
def State.accesses (s : State) : Nat → State
  | 0 => s
  | n + 1 => s.access.accesses n

/-- The next event is the reset input: what the instruction under way would still do reaches neither memory
nor the I/O space (R540; log 15). -/
def State.resetReached (s : State) : Bool := decide (s.env.bus.head? = some .reset)

/-- A refusal in this state; where the reset has come before it, the instruction is abandoned instead (R540,
R565; log 15). -/
def State.refuse (s : State) (r : Refusal) : Result := if s.resetReached then .next s else .refused r

/-! ## Memory -/

/-- `MemRead(addr, 1)` (R73). -/
def State.memByte (s : State) (addr : Nat) : Byte := Memory.read s.access.mem (addr % 2 ^ s.cfg.physBits)

/-- `MemRead(addr, 2)` (R73). -/
def State.memWord (s : State) (addr : Nat) : Word := joinBytes (s.access.memByte (addr + 1)) (s.memByte addr)

/-- `Read(seg, off, 1)` (R75). -/
def State.read8 (s : State) (seg off : Word) : Byte := Memory.read s.access.mem (phys s.cfg seg off)

/-- `Read(seg, off, 2)`: low byte first, the offset wraps in the segment (R74, R75). -/
def State.read16 (s : State) (seg off : Word) : Word :=
  joinBytes (s.access.read8 seg (off + 1)) (s.read8 seg off)

/-- `Read(seg, off, 4)` (R75). -/
def State.read32 (s : State) (seg off : Word) : BitVec 32 :=
  (s.accesses 2).read16 seg (off + 2) ++ s.read16 seg off

/-- `Read(seg, off, 8)` (R75). -/
def State.read64 (s : State) (seg off : Word) : BitVec 64 :=
  (s.accesses 4).read32 seg (off + 4) ++ s.read32 seg off

/-- `Read(seg, off, 10)` (R75). -/
def State.read80 (s : State) (seg off : Word) : BitVec 80 :=
  (s.accesses 8).read16 seg (off + 8) ++ s.read64 seg off

/-- The addresses whose bytes prefetch may hold while an instruction runs: PREFETCH_BYTES from the offset
after it (R95). -/
def State.window (s : State) : List Nat :=
  (List.range s.cfg.prefetchBytes).map fun k => phys s.cfg s.regs.cs (s.regs.ip + BitVec.ofNat 16 k)

/-- The processor's own store of one byte; within the window the byte from before may still be fetched
(R73, R95). -/
def State.store (s : State) (addr : Nat) (v : Byte) : State :=
  { s with
    mem := Memory.write s.mem addr v
    ctl := { s.ctl with
      stale := if addr ∈ s.window then (addr, Memory.read s.mem addr) :: s.ctl.stale else s.ctl.stale } }

/-- `Write(seg, off, 1, v)` (R75); nothing is stored once the reset has come (R540). -/
def State.write8 (s : State) (seg off : Word) (v : Byte) : State :=
  if s.resetReached then s else s.access.store (phys s.cfg seg off) v

/-- `Write(seg, off, 2, v)` (R74, R75). -/
def State.write16 (s : State) (seg off : Word) (v : Word) : State :=
  (s.write8 seg off (lowByte v)).write8 seg (off + 1) (highByte v)

/-- `Write(seg, off, 4, v)` (R75). -/
def State.write32 (s : State) (seg off : Word) (v : BitVec 32) : State :=
  (s.write16 seg off (v.extractLsb' 0 16)).write16 seg (off + 2) (v.extractLsb' 16 16)

/-- `Write(seg, off, 8, v)` (R75). -/
def State.write64 (s : State) (seg off : Word) (v : BitVec 64) : State :=
  (s.write32 seg off (v.extractLsb' 0 32)).write32 seg (off + 4) (v.extractLsb' 32 32)

/-- `Write(seg, off, 10, v)` (R75). -/
def State.write80 (s : State) (seg off : Word) (v : BitVec 80) : State :=
  (s.write64 seg off (v.extractLsb' 0 64)).write16 seg (off + 8) (v.extractLsb' 64 16)

/-- `Read(seg, off, n)` for an operand of the W bit's width (R121). -/
def State.readMem (s : State) (seg off : Word) : (w : Width) → BitVec w.bits
  | .byte => s.read8 seg off
  | .word => s.read16 seg off

/-- The state after a `Read` of an operand. -/
def State.afterRead (s : State) (w : Width) : State := s.accesses w.bytes.toNat

/-- `Write(seg, off, n, v)` for an operand of the W bit's width (R121). -/
def State.writeMem (s : State) (seg off : Word) : (w : Width) → BitVec w.bits → State
  | .byte, v => s.write8 seg off v
  | .word, v => s.write16 seg off v

/-! ## Small updates -/

/-- IP <- target. -/
def State.setIp (s : State) (v : Word) : State := { s with regs := { s.regs with ip := v } }

/-- SP <- v. -/
def State.setSp (s : State) (v : Word) : State := { s with regs := { s.regs with sp := v } }

/-- CS:IP <- seg:off. -/
def State.setCsIp (s : State) (seg off : Word) : State :=
  { s with regs := { s.regs with cs := seg, ip := off } }

/-- A control transfer is taken: what was fetched ahead is discarded (R552). -/
def State.discardPrefetch (s : State) : State := { s with ctl := { s.ctl with stale := [] } }

/-- A control transfer inside the code segment: IP <- target (R9, R552). -/
def State.goTo (s : State) (target : Word) : State := (s.setIp target).discardPrefetch

/-- A control transfer between segments: CS:IP <- seg:off (R9, R552). -/
def State.goFar (s : State) (seg off : Word) : State := (s.setCsIp seg off).discardPrefetch

/-- FLAGS <- f. -/
def State.setFlags (s : State) (f : Flags) : State := { s with flags := f }

/-- k free values have been drawn (log 9). -/
def State.drawn (s : State) (k : Nat) : State := { s with draws := s.draws + k }

/-- run_state <- r. -/
def State.setRun (s : State) (r : RunState) : State := { s with ctl := { s.ctl with run := r } }

/-- inhibit_once <- b. -/
def State.setInhibit (s : State) (b : Bool) : State := { s with ctl := { s.ctl with inhibit := b } }

/-- The bus is locked, or free (R50). -/
def State.setBusLock (s : State) (b : Bool) : State := { s with ctl := { s.ctl with busLock := b } }

/-- The prefix state. -/
def State.setPfx (s : State) (p : Prefixes) : State := { s with ctl := { s.ctl with pfx := p } }

/-! ## The stack -/

/-- `Push(v)` (R200). -/
def State.push (s : State) (v : Word) : State :=
  (s.setSp (s.regs.sp - 2)).write16 s.regs.ss (s.regs.sp - 2) v

/-- The word at the top of the stack (R77). -/
def State.top (s : State) : Word := s.read16 s.regs.ss s.regs.sp

/-- The state after a `Pop()` (R200); the word popped is `State.top` before. -/
def State.drop (s : State) : State := (s.accesses 2).setSp (s.regs.sp + 2)

/-! ## Taking an interrupt, and returning from one -/

/-- `FLAGS_image` (R40). -/
def State.flagsImage (s : State) : Word := s.flags.image s.cfg.flagsFixed

/-- The physical address of a vector (R504). -/
def State.vector (s : State) (t : Byte) : Nat := s.cfg.ivtBase + 4 * t.toNat

/-- `Interrupt(t)` with the saved IP `r`, in the order of R505. Every cause takes it. -/
def State.interrupt (s : State) (t : Byte) (r : Word) : State :=
  let s1 := s.push s.flagsImage
  let s2 := s1.setFlags { s1.flags with IF := false, TF := false }
  let s3 := s2.push s2.regs.cs
  let newCs := s3.memWord (s3.vector t + 2)
  let s4 := (s3.accesses 2).push r
  let newIp := s4.memWord (s4.vector t)
  (((s4.accesses 2).goFar newCs newIp).setRun .running).setInhibit false

/-- The return: IP, CS and FLAGS popped (R375, R520). -/
def State.interruptReturn (s : State) : State :=
  let s1 := s.drop
  let s2 := s1.drop
  ((s2.drop).goFar s1.top s.top).setFlags (Flags.ofWord s2.top)

/-! ## The I/O space -/

/-- `IoRead(port, 1)`: the environment's answer, recorded (R78; log 13). -/
def State.portValue (s : State) (port : Word) : Byte :=
  match s.env.portIn with
  | v :: _ => v
  | [] => Config.portInput port s.draws

/-- The environment has answered a read of a port. -/
def State.recordInput (s : State) (port : Word) : State :=
  { s with
    env := { s.env with portIn := s.env.portIn.tail }
    io := .input port (s.portValue port) :: s.io
    draws := s.draws + 1 }

/-- A byte has gone out to a port. -/
def State.recordOutput (s : State) (port : Word) (v : Byte) : State :=
  { s with io := .output port v :: s.io }

/-- The state after an `IoRead(port, 1)`; there is none once the reset has come (R540). -/
def State.portRead (s : State) (port : Word) : State :=
  if s.resetReached then s else s.access.recordInput port

/-- `IoWrite(port, 1, v)`: recorded (R78); there is none once the reset has come (R540). -/
def State.portWrite (s : State) (port : Word) (v : Byte) : State :=
  if s.resetReached then s else s.access.recordOutput port v

/-- `IoRead(port, n)`, the low port first (R78). -/
def State.ioValue (s : State) (port : Word) : (w : Width) → BitVec w.bits
  | .byte => s.portValue port
  | .word => joinBytes ((s.portRead port).portValue (port + 1)) (s.portValue port)

/-- The state after an `IoRead(port, n)`. -/
def State.ioRead (s : State) (port : Word) : Width → State
  | .byte => s.portRead port
  | .word => (s.portRead port).portRead (port + 1)

/-- `IoWrite(port, n, v)`, the low port first (R78). -/
def State.ioWrite (s : State) (port : Word) : (w : Width) → BitVec w.bits → State
  | .byte, v => s.portWrite port v
  | .word, v => (s.portWrite port (lowByte v)).portWrite (port + 1) (highByte v)

/-! ## The 8087 stack -/

/-- ST(i), if it is not empty (R420). -/
def State.st (s : State) (n : Nat) : Option TReal := (s.fpu[n]?).join

/-- ST(i) <- v. -/
def State.setSt (s : State) (n : Nat) (v : TReal) : State := { s with fpu := s.fpu.set n (some v) }

/-- The stack is popped (R420). -/
def State.fpuPop (s : State) : State := { s with fpu := s.fpu.tail ++ [none] }

/-- Whether a push has no place: the bottom register is occupied (R420; log 21). -/
def State.fpuFull (s : State) : Bool := decide (s.fpu.getLast? ≠ some none)

/-- A push, refused when the bottom place is occupied (R420). -/
def State.fpuPush (s : State) (v : TReal) : Result :=
  if s.fpuFull then s.refuse .fpuStackFull
  else .next { s with fpu := some v :: s.fpu.dropLast }

/-- An effect that reads ST(i), refused when it is empty (R420). -/
def State.withSt (s : State) (n : Nat) (k : TReal → Result) : Result :=
  match s.st n with
  | some v => k v
  | none => s.refuse .fpuStackEmpty

/-- An effect on ST(i), refused where there is no such register (R55; log 21). -/
def State.ifSt (s : State) (n : Nat) (t : State) : Result :=
  if n < s.fpu.length then .next t else s.refuse .fpuNoRegister

end Sys2Proof.Machine
end

