-- ==== Sys2Proof/Machine/Operands.lean ====
section
/-! DEFINITION. The operand forms: registers, effective addresses and segments, the R/M operand, and the
forms that several instructions share (R20, R21, R117 to R121, R244). -/

namespace Sys2Proof.Machine

/-! ## Registers -/

/-- `r16[n]` (R20). -/
def Regs.get16 (r : Regs) : Bits3 → Word
  | .b000 => r.ax
  | .b001 => r.cx
  | .b010 => r.dx
  | .b011 => r.bx
  | .b100 => r.sp
  | .b101 => r.bp
  | .b110 => r.si
  | .b111 => r.di

/-- `r16[n] <- v` (R20). -/
def Regs.set16 (r : Regs) (n : Bits3) (v : Word) : Regs :=
  match n with
  | .b000 => { r with ax := v }
  | .b001 => { r with cx := v }
  | .b010 => { r with dx := v }
  | .b011 => { r with bx := v }
  | .b100 => { r with sp := v }
  | .b101 => { r with bp := v }
  | .b110 => { r with si := v }
  | .b111 => { r with di := v }

/-- A word with its low byte replaced (R21). -/
def withLow (x : Word) (v : Byte) : Word := joinBytes (highByte x) v

/-- A word with its high byte replaced (R21). -/
def withHigh (x : Word) (v : Byte) : Word := joinBytes v (lowByte x)

/-- `r8[n]` (R20, R21). -/
def Regs.get8 (r : Regs) : Bits3 → Byte
  | .b000 => lowByte r.ax
  | .b001 => lowByte r.cx
  | .b010 => lowByte r.dx
  | .b011 => lowByte r.bx
  | .b100 => highByte r.ax
  | .b101 => highByte r.cx
  | .b110 => highByte r.dx
  | .b111 => highByte r.bx

/-- `r8[n] <- v`: the other half of the word register is unchanged (R21). -/
def Regs.set8 (r : Regs) (n : Bits3) (v : Byte) : Regs :=
  match n with
  | .b000 => { r with ax := withLow r.ax v }
  | .b001 => { r with cx := withLow r.cx v }
  | .b010 => { r with dx := withLow r.dx v }
  | .b011 => { r with bx := withLow r.bx v }
  | .b100 => { r with ax := withHigh r.ax v }
  | .b101 => { r with cx := withHigh r.cx v }
  | .b110 => { r with dx := withHigh r.dx v }
  | .b111 => { r with bx := withHigh r.bx v }

/-- `reg(w, n)` (R9). -/
def Regs.get (r : Regs) (n : Bits3) : (w : Width) → BitVec w.bits
  | .byte => r.get8 n
  | .word => r.get16 n

/-- `reg(w, n) <- v` (R9). -/
def Regs.set (r : Regs) (n : Bits3) : (w : Width) → BitVec w.bits → Regs
  | .byte, v => r.set8 n v
  | .word, v => r.set16 n v

/-- `sreg[n]` (R27). -/
def Regs.getSeg (r : Regs) : SReg → Word
  | .es => r.es
  | .cs => r.cs
  | .ss => r.ss
  | .ds => r.ds

/-- `sreg[n] <- v` (R27). -/
def Regs.setSeg (r : Regs) (n : SReg) (v : Word) : Regs :=
  match n with
  | .es => { r with es := v }
  | .cs => { r with cs := v }
  | .ss => { r with ss := v }
  | .ds => { r with ds := v }

/-- `reg(w, n)` of the machine. -/
def State.reg (s : State) (w : Width) (n : Bits3) : BitVec w.bits := s.regs.get n w

/-- `reg(w, n) <- v`. -/
def State.setReg (s : State) (w : Width) (n : Bits3) (v : BitVec w.bits) : State :=
  { s with regs := s.regs.set n w v }

/-- `r16[n] <- v`. -/
def State.setReg16 (s : State) (n : Bits3) (v : Word) : State := { s with regs := s.regs.set16 n v }

/-- `sreg[n] <- v`. -/
def State.setSeg (s : State) (n : SReg) (v : Word) : State := { s with regs := s.regs.setSeg n v }

/-- The accumulator, AL or AX (R22). -/
def State.acc (s : State) (w : Width) : BitVec w.bits := s.reg w .b000

/-- AL or AX <- v. -/
def State.setAcc (s : State) (w : Width) (v : BitVec w.bits) : State := s.setReg w .b000 v

/-- AL (R21). -/
def State.al (s : State) : Byte := lowByte s.regs.ax

/-- AH (R21). -/
def State.ah (s : State) : Byte := highByte s.regs.ax

/-- CL (R21). -/
def State.cl (s : State) : Byte := lowByte s.regs.cx

/-- AX <- v. -/
def State.setAx (s : State) (v : Word) : State := { s with regs := { s.regs with ax := v } }

/-- CX <- v. -/
def State.setCx (s : State) (v : Word) : State := { s with regs := { s.regs with cx := v } }

/-- DX <- v. -/
def State.setDx (s : State) (v : Word) : State := { s with regs := { s.regs with dx := v } }

/-! ## Effective address and segment -/

/-- The base and index part of an effective address (R118). -/
def Regs.base (r : Regs) : EaBase → Word
  | .bxSi => r.bx + r.si
  | .bxDi => r.bx + r.di
  | .bpSi => r.bp + r.si
  | .bpDi => r.bp + r.di
  | .si => r.si
  | .di => r.di
  | .bp => r.bp
  | .bx => r.bx

/-- The default segment of an effective address: SS where the formula contains BP, else DS (R76). -/
def eaSegment : EaBase → SReg
  | .bxSi => .ds
  | .bxDi => .ds
  | .bpSi => .ss
  | .bpDi => .ss
  | .si => .ds
  | .di => .ds
  | .bp => .ss
  | .bx => .ds

/-- `SEG` for a default segment: the override where there is one (R76, R413). -/
def State.segment (s : State) (default : SReg) : Word := s.regs.getSeg (s.ctl.pfx.seg.getD default)

/-- An operand as a place: a register, or a segment value and an offset (R121). -/
inductive Place
  | reg (n : Bits3)
  | mem (seg off : Word)
  deriving DecidableEq, Repr

/-- The place the MOD and R/M fields name, from the registers as they are (R117 to R121). -/
def State.place (s : State) : Rm → Place
  | .reg n => .reg n
  | .direct d => .mem (s.segment .ds) d
  | .base b => .mem (s.segment (eaSegment b)) (s.regs.base b)
  | .disp8 b d => .mem (s.segment (eaSegment b)) (s.regs.base b + sext16 d)
  | .disp16 b d => .mem (s.segment (eaSegment b)) (s.regs.base b + d)

/-- The operand's value. -/
def State.readPlace (s : State) (w : Width) : Place → BitVec w.bits
  | .reg n => s.reg w n
  | .mem seg off => s.readMem seg off w

/-- The state after a read of the operand. -/
def State.placeAfter (s : State) (w : Width) : Place → State
  | .reg _ => s
  | .mem _ _ => s.afterRead w

/-- The operand <- v. -/
def State.writePlace (s : State) (w : Width) (p : Place) (v : BitVec w.bits) : State :=
  match p with
  | .reg n => s.setReg w n v
  | .mem seg off => s.writeMem seg off w v

/-- `RM_read(w)` (R121). -/
def State.rmRead (s : State) (w : Width) (rm : Rm) : BitVec w.bits := s.readPlace w (s.place rm)

/-- The state after an `RM_read(w)`. -/
def State.rmAfter (s : State) (w : Width) (rm : Rm) : State := s.placeAfter w (s.place rm)

/-- `RM_write(w, v)` (R121). -/
def State.rmWrite (s : State) (w : Width) (rm : Rm) (v : BitVec w.bits) : State :=
  s.writePlace w (s.place rm) v

/-- The state after the read of a word that ESC makes of a memory operand; MOD = 11 makes none (R409, D26). -/
def State.escRead (s : State) (rm : Rm) : State := s.rmAfter .word rm

/-- An effect on a memory operand's segment and offset; MOD = 11 is refused (R150 item 6, D39). -/
def State.withMem (s : State) (rm : Rm) (k : Word → Word → Result) : Result :=
  match s.place rm with
  | .mem seg off => k seg off
  | .reg _ => .refused .registerOperand

/-- The effect of an 8087 instruction on its memory operand, after the 8086's read of a word there (R409, R420;
log 31). -/
def State.withEscMem (s : State) (rm : Rm) (k : State → Word → Word → Result) : Result :=
  s.withMem rm (k (s.escRead rm))

/-- The offset of a far pointer in memory, its first word (R207, R355). -/
def State.pointerOffset (s : State) (seg off : Word) : Word := s.read16 seg off

/-- The segment of a far pointer in memory, the word after the offset, read after it (R207, R355). -/
def State.pointerSegment (s : State) (seg off : Word) : Word := (s.accesses 2).read16 seg (off + 2)

/-! ## Shared forms -/

/-- An operation on a destination's old value and a source: the result, and the state with its flags. -/
abbrev BinaryOp (w : Width) := BitVec w.bits → BitVec w.bits → State → BitVec w.bits × State

/-- Form 1 of R244: R/M with register, the D bit choosing the destination. -/
def State.formRm (s : State) (d : Dir) (w : Width) (rm : Rm) (r : Bits3) (op : BinaryOp w) : State :=
  match d with
  | .toRm =>
    let o := op (s.rmRead w rm) (s.reg w r) (s.rmAfter w rm)
    o.2.rmWrite w rm o.1
  | .toReg =>
    let o := op (s.reg w r) (s.rmRead w rm) (s.rmAfter w rm)
    o.2.setReg w r o.1

/-- Form 2 of R244: immediate to accumulator. -/
def State.formAcc (s : State) (w : Width) (imm : BitVec w.bits) (op : BinaryOp w) : State :=
  let o := op (s.acc w) imm s
  o.2.setAcc w o.1

/-- Form 3 of R244: immediate to R/M. -/
def State.formImm (s : State) (w : Width) (rm : Rm) (imm : BitVec w.bits) (op : BinaryOp w) : State :=
  let o := op (s.rmRead w rm) imm (s.rmAfter w rm)
  o.2.rmWrite w rm o.1

/-- Form 1 of R244 for its flags only (CMP). -/
def State.flagsRm (s : State) (d : Dir) (w : Width) (rm : Rm) (r : Bits3) (op : BinaryOp w) : State :=
  match d with
  | .toRm => (op (s.rmRead w rm) (s.reg w r) (s.rmAfter w rm)).2
  | .toReg => (op (s.reg w r) (s.rmRead w rm) (s.rmAfter w rm)).2

/-- Form 3 of R244 for its flags only (CMP). -/
def State.flagsImm (s : State) (w : Width) (rm : Rm) (imm : BitVec w.bits) (op : BinaryOp w) : State :=
  (op (s.rmRead w rm) imm (s.rmAfter w rm)).2

/-- An operation on the R/M operand alone. -/
def State.formUnary (s : State) (w : Width) (rm : Rm) (op : BitVec w.bits → State → BitVec w.bits × State) :
    State :=
  let o := op (s.rmRead w rm) (s.rmAfter w rm)
  o.2.rmWrite w rm o.1

end Sys2Proof.Machine
end

