-- ==== Sys2Proof/Machine/Arithmetic.lean ====
section
/-! DEFINITION. The arithmetic instructions (41_arithmetic). -/

namespace Sys2Proof.Machine

/-! ## Shared operations -/

/-- `Add_N(a, b, c)` on the state's flags (R242). -/
def opAdd {w : Width} (c : Bool) : BinaryOp w :=
  fun a b s => (addResult a b c, s.setFlags (s.flags.add a b c))

/-- `Sub_N(a, b, c)` on the state's flags (R243). -/
def opSub {w : Width} (c : Bool) : BinaryOp w :=
  fun a b s => (subResult a b c, s.setFlags (s.flags.sub a b c))

/-- `Add_N(a, 1, 0)` with CF kept (R250). -/
def opInc {w : Width} (a : BitVec w.bits) (s : State) : BitVec w.bits × State :=
  (addResult a (BitVec.ofNat w.bits 1) false,
    s.setFlags { s.flags.add a (BitVec.ofNat w.bits 1) false with CF := s.flags.CF })

/-- `Sub_N(a, 1, 0)` with CF kept (R251). -/
def opDec {w : Width} (a : BitVec w.bits) (s : State) : BitVec w.bits × State :=
  (subResult a (BitVec.ofNat w.bits 1) false,
    s.setFlags { s.flags.sub a (BitVec.ofNat w.bits 1) false with CF := s.flags.CF })

/-- `Sub_N(0, a, 0)` (R252). -/
def opNeg {w : Width} (a : BitVec w.bits) (s : State) : BitVec w.bits × State :=
  (subResult 0 a false, s.setFlags (s.flags.sub 0 a false))

/-- A signed byte immediate as a word (R122). -/
def signImm (b : Byte) : BitVec Width.word.bits := sext16 b

/-! ## ADD, ADC, SUB, SBB, CMP -/

/-- ADD, form 1 (R245, R244). -/
def execAddRm (d : Dir) (w : Width) (rm : Rm) (r : Bits3) (s : State) : Result :=
  .next (s.formRm d w rm r (opAdd false))

/-- ADD accumulator, immediate (R245). -/
def execAddAcc (w : Width) (imm : BitVec w.bits) (s : State) : Result :=
  .next (s.formAcc w imm (opAdd false))

/-- ADD r/m, immediate (R245). -/
def execAddImm (w : Width) (rm : Rm) (imm : BitVec w.bits) (s : State) : Result :=
  .next (s.formImm w rm imm (opAdd false))

/-- ADD word r/m, sign-extended byte (R245, R122). -/
def execAddImmS (rm : Rm) (imm8 : Byte) (s : State) : Result :=
  .next (s.formImm .word rm (signImm imm8) (opAdd false))

/-- ADC, form 1 (R246, R244). -/
def execAdcRm (d : Dir) (w : Width) (rm : Rm) (r : Bits3) (s : State) : Result :=
  .next (s.formRm d w rm r (opAdd s.flags.CF))

/-- ADC accumulator, immediate (R246). -/
def execAdcAcc (w : Width) (imm : BitVec w.bits) (s : State) : Result :=
  .next (s.formAcc w imm (opAdd s.flags.CF))

/-- ADC r/m, immediate (R246). -/
def execAdcImm (w : Width) (rm : Rm) (imm : BitVec w.bits) (s : State) : Result :=
  .next (s.formImm w rm imm (opAdd s.flags.CF))

/-- ADC word r/m, sign-extended byte (R246, R122). -/
def execAdcImmS (rm : Rm) (imm8 : Byte) (s : State) : Result :=
  .next (s.formImm .word rm (signImm imm8) (opAdd s.flags.CF))

/-- SUB, form 1 (R247, R244). -/
def execSubRm (d : Dir) (w : Width) (rm : Rm) (r : Bits3) (s : State) : Result :=
  .next (s.formRm d w rm r (opSub false))

/-- SUB accumulator, immediate (R247). -/
def execSubAcc (w : Width) (imm : BitVec w.bits) (s : State) : Result :=
  .next (s.formAcc w imm (opSub false))

/-- SUB r/m, immediate (R247). -/
def execSubImm (w : Width) (rm : Rm) (imm : BitVec w.bits) (s : State) : Result :=
  .next (s.formImm w rm imm (opSub false))

/-- SUB word r/m, sign-extended byte (R247, R122). -/
def execSubImmS (rm : Rm) (imm8 : Byte) (s : State) : Result :=
  .next (s.formImm .word rm (signImm imm8) (opSub false))

/-- SBB, form 1 (R248, R244). -/
def execSbbRm (d : Dir) (w : Width) (rm : Rm) (r : Bits3) (s : State) : Result :=
  .next (s.formRm d w rm r (opSub s.flags.CF))

/-- SBB accumulator, immediate (R248). -/
def execSbbAcc (w : Width) (imm : BitVec w.bits) (s : State) : Result :=
  .next (s.formAcc w imm (opSub s.flags.CF))

/-- SBB r/m, immediate (R248). -/
def execSbbImm (w : Width) (rm : Rm) (imm : BitVec w.bits) (s : State) : Result :=
  .next (s.formImm w rm imm (opSub s.flags.CF))

/-- SBB word r/m, sign-extended byte (R248, R122). -/
def execSbbImmS (rm : Rm) (imm8 : Byte) (s : State) : Result :=
  .next (s.formImm .word rm (signImm imm8) (opSub s.flags.CF))

/-- CMP, form 1: the flags only (R249, R244). -/
def execCmpRm (d : Dir) (w : Width) (rm : Rm) (r : Bits3) (s : State) : Result :=
  .next (s.flagsRm d w rm r (opSub false))

/-- CMP accumulator, immediate (R249). -/
def execCmpAcc (w : Width) (imm : BitVec w.bits) (s : State) : Result :=
  .next (opSub false (s.acc w) imm s).2

/-- CMP r/m, immediate (R249). -/
def execCmpImm (w : Width) (rm : Rm) (imm : BitVec w.bits) (s : State) : Result :=
  .next (s.flagsImm w rm imm (opSub false))

/-- CMP word r/m, sign-extended byte (R249, R122). -/
def execCmpImmS (rm : Rm) (imm8 : Byte) (s : State) : Result :=
  .next (s.flagsImm .word rm (signImm imm8) (opSub false))

/-! ## INC, DEC, NEG -/

/-- INC word register (R250). -/
def execIncReg (r : Bits3) (s : State) : Result := .next (s.formUnary .word (.reg r) opInc)

/-- INC r/m (R250). -/
def execIncRm (w : Width) (rm : Rm) (s : State) : Result := .next (s.formUnary w rm opInc)

/-- DEC word register (R251). -/
def execDecReg (r : Bits3) (s : State) : Result := .next (s.formUnary .word (.reg r) opDec)

/-- DEC r/m (R251). -/
def execDecRm (w : Width) (rm : Rm) (s : State) : Result := .next (s.formUnary w rm opDec)

/-- NEG (R252). -/
def execNeg (w : Width) (rm : Rm) (s : State) : Result := .next (s.formUnary w rm opNeg)

/-! ## Multiplication -/

/-- CF, OF and the undefined flags of a multiplication (R254, R255, R450). -/
def State.multiplyFlags (s : State) (significant : Bool) : State :=
  (s.setFlags (s.flags.multiply significant s.draws)).drawn 4

/-- The byte product in AX (R254, R255). -/
def State.productByte (s : State) (p : Word) (significant : Bool) : State :=
  (s.setAx p).multiplyFlags significant

/-- The word product in DX:AX (R254, R255). -/
def State.productWord (s : State) (p : BitVec 32) (significant : Bool) : State :=
  ((s.setDx (p.extractLsb' 16 16)).setAx (p.extractLsb' 0 16)).multiplyFlags significant

/-- MUL (R254). -/
def execMul (w : Width) (rm : Rm) (s : State) : Result :=
  match w with
  | .byte =>
    let p : Word := zext16 s.al * zext16 (s.rmRead .byte rm)
    .next ((s.rmAfter .byte rm).productByte p (decide (highByte p ≠ 0)))
  | .word =>
    let p : BitVec 32 := s.regs.ax.setWidth 32 * (s.rmRead .word rm).setWidth 32
    .next ((s.rmAfter .word rm).productWord p (decide (p.extractLsb' 16 16 ≠ 0)))

/-- IMUL, one operand (R255). -/
def execImul (w : Width) (rm : Rm) (s : State) : Result :=
  match w with
  | .byte =>
    let p : Word := sext16 s.al * sext16 (s.rmRead .byte rm)
    .next ((s.rmAfter .byte rm).productByte p (decide (p ≠ sext16 (lowByte p))))
  | .word =>
    let p : BitVec 32 := s.regs.ax.signExtend 32 * (s.rmRead .word rm).signExtend 32
    .next ((s.rmAfter .word rm).productWord p (decide (p ≠ (p.extractLsb' 0 16).signExtend 32)))

/-! ## Division -/

/-- Interrupt 0 from a division: the saved IP is DIVERR_SAVED_IP (R503). -/
def State.divideInterrupt (s : State) : State :=
  match s.cfg.divErrorIp with
  | .next => s.interrupt 0 s.regs.ip
  | .faulting => s.interrupt 0 s.ctl.startIp

/-- The six status flags undefined after a division (R256, R257). -/
def State.divideFlags (s : State) : State := s.setFlags (s.flags.undefined s.draws)

/-- A byte division that raises interrupt 0: AL and AH are undefined (R256, U3; log 10). -/
def State.divideErrorByte (s : State) : State :=
  (((s.divideFlags).setAx
    (joinBytes (Config.freeByte (s.draws + 6)) (Config.freeByte (s.draws + 7)))).drawn 8).divideInterrupt

/-- A word division that raises interrupt 0: AX and DX are undefined (R256, U3; log 10). -/
def State.divideErrorWord (s : State) : State :=
  ((((s.divideFlags).setAx (Config.freeWord (s.draws + 6))).setDx
    (Config.freeWord (s.draws + 7))).drawn 8).divideInterrupt

/-- The quotient in AL and the remainder in AH (R256, R257). -/
def State.quotientByte (s : State) (q r : Byte) : State := ((s.divideFlags).setAx (joinBytes r q)).drawn 6

/-- The quotient in AX and the remainder in DX (R256, R257). -/
def State.quotientWord (s : State) (q r : Word) : State := (((s.divideFlags).setAx q).setDx r).drawn 6

/-- DIV (R256). -/
def execDiv (w : Width) (rm : Rm) (s : State) : Result :=
  match w with
  | .byte =>
    let n := s.regs.ax.toNat
    let d := (s.rmRead .byte rm).toNat
    if d = 0 ∨ 0xFF < n / d then .next (s.rmAfter .byte rm).divideErrorByte
    else .next ((s.rmAfter .byte rm).quotientByte (BitVec.ofNat 8 (n / d)) (BitVec.ofNat 8 (n % d)))
  | .word =>
    let n := (s.regs.dx ++ s.regs.ax : BitVec 32).toNat
    let d := (s.rmRead .word rm).toNat
    if d = 0 ∨ 0xFFFF < n / d then .next (s.rmAfter .word rm).divideErrorWord
    else .next ((s.rmAfter .word rm).quotientWord (BitVec.ofNat 16 (n / d)) (BitVec.ofNat 16 (n % d)))

/-- The least quotient IDIV accepts at N bits, from the greatest (R257). -/
def State.leastQuotient (s : State) (greatest : Int) : Int :=
  if s.cfg.idivMostNegativeOk then -greatest - 1 else -greatest

/-- IDIV: the quotient is rounded toward zero, the remainder has the dividend's sign (R257). -/
def execIdiv (w : Width) (rm : Rm) (s : State) : Result :=
  match w with
  | .byte =>
    let n := s.regs.ax.toInt
    let d := (s.rmRead .byte rm).toInt
    let q := n.tdiv d
    if d = 0 ∨ 127 < q ∨ q < s.leastQuotient 127 then .next (s.rmAfter .byte rm).divideErrorByte
    else .next ((s.rmAfter .byte rm).quotientByte (BitVec.ofInt 8 q) (BitVec.ofInt 8 (n.tmod d)))
  | .word =>
    let n := (s.regs.dx ++ s.regs.ax : BitVec 32).toInt
    let d := (s.rmRead .word rm).toInt
    let q := n.tdiv d
    if d = 0 ∨ 32767 < q ∨ q < s.leastQuotient 32767 then .next (s.rmAfter .word rm).divideErrorWord
    else .next ((s.rmAfter .word rm).quotientWord (BitVec.ofInt 16 q) (BitVec.ofInt 16 (n.tmod d)))

/-! ## Conversions -/

/-- CBW (R260). -/
def execCbw (s : State) : Result := .next (s.setAx (sext16 s.al))

/-- CWD (R261). -/
def execCwd (s : State) : Result := .next (s.setDx (if s.regs.ax.msb then 0xFFFF else 0x0000))

/-! ## ASCII and decimal adjustments -/

/-- Whether AAA, AAS, DAA and DAS correct the low digit: AL[3:0] > 9 or AF = 1 (R263, R264, R267, R268). -/
def State.lowDigitCorrection (s : State) : Bool := decide (9 < s.al.toNat % 16) || s.flags.AF

/-- AX <- AH : AL. -/
def State.setAhAl (s : State) (ah al : Byte) : State := s.setAx (joinBytes ah al)

/-- AAA: the two increments are separate byte additions (R263). -/
def execAaa (s : State) : Result :=
  let c := s.lowDigitCorrection
  let al := if c then s.al + 6 else s.al
  let ah := if c then s.ah + 1 else s.ah
  .next (((s.setAhAl ah (al &&& 0x0F)).setFlags (s.flags.asciiAdjust c s.draws)).drawn 4)

/-- AAS: the two decrements are separate byte subtractions (R264). -/
def execAas (s : State) : Result :=
  let c := s.lowDigitCorrection
  let al := if c then s.al - 6 else s.al
  let ah := if c then s.ah - 1 else s.ah
  .next (((s.setAhAl ah (al &&& 0x0F)).setFlags (s.flags.asciiAdjust c s.draws)).drawn 4)

/-- AAD (R265). -/
def execAad (s : State) : Result :=
  let al := s.ah * 10 + s.al
  .next (((s.setAhAl 0 al).setFlags (s.flags.asciiScale al s.draws)).drawn 3)

/-- AAM (R266). -/
def execAam (s : State) : Result :=
  let al := s.al % 10
  .next (((s.setAhAl (s.al / 10) al).setFlags (s.flags.asciiScale al s.draws)).drawn 3)

/-- AL, AF, CF and the result flags of DAA and DAS, OF undefined (R267, R268). -/
def State.decimalResult (s : State) (al : Byte) (af cf : Bool) : State :=
  ((s.setAcc .byte al).setFlags
    { s.flags.szp al with AF := af, CF := cf, OF := Config.freeBit s.draws }).drawn 1

/-- DAA: the second step tests the AL the first left (R267). -/
def execDaa (s : State) : Result :=
  let c := s.lowDigitCorrection
  let al := if c then s.al + 0x06 else s.al
  let d := decide (0x9F < al.toNat) || s.flags.CF
  .next (s.decimalResult (if d then al + 0x60 else al) c d)

/-- DAS: the second step tests the AL the first left (R268). -/
def execDas (s : State) : Result :=
  let c := s.lowDigitCorrection
  let al := if c then s.al - 0x06 else s.al
  let d := decide (0x9F < al.toNat) || s.flags.CF
  .next (s.decimalResult (if d then al - 0x60 else al) c d)

end Sys2Proof.Machine
end

