-- ==== Sys2Proof/Machine/Control.lean ====
section
/-! DEFINITION. The control transfer instructions (44_control_transfer). A displacement is relative to IP,
which holds `IPnext` while a meaning runs (R24, R351; log 7). -/

namespace Sys2Proof.Machine

/-! ## Shared operations -/

/-- IP <- IPnext + disp (R351). -/
def State.jump (s : State) (disp : Word) : State := s.goTo (s.regs.ip + disp)

/-- A short jump when the condition holds (R366). -/
def State.jumpIf (s : State) (c : Bool) (disp : Byte) : State := if c then s.jump (sext16 disp) else s

/-- CX <- CX - 1, then a short jump when CX is not zero and the condition holds (R368 to R370). -/
def State.loopIf (s : State) (c : Bool) (disp : Byte) : State :=
  (s.setCx (s.regs.cx - 1)).jumpIf (decide (s.regs.cx - 1 ≠ 0) && c) disp

/-- An intersegment call: CS and then IPnext pushed (R354). -/
def State.farCall (s : State) (seg off : Word) : State :=
  ((s.push s.regs.cs).push s.regs.ip).goFar seg off

/-! ## CALL, RET, JMP -/

/-- CALL intrasegment direct (R352). -/
def execCallNear (disp16 : Word) (s : State) : Result := .next ((s.push s.regs.ip).jump disp16)

/-- CALL intrasegment indirect: the operand is read before the push (R353). -/
def execCallInd (rm : Rm) (s : State) : Result :=
  .next (((s.rmAfter .word rm).push s.regs.ip).goTo (s.rmRead .word rm))

/-- CALL intersegment direct (R354). -/
def execCallFar (off sg : Word) (s : State) : Result := .next (s.farCall sg off)

/-- CALL intersegment indirect; a register operand is refused (R355, D39). -/
def execCallFarInd (rm : Rm) (s : State) : Result :=
  s.withMem rm fun seg off => .next ((s.accesses 4).farCall (s.pointerSegment seg off) (s.pointerOffset seg off))

/-- RET intrasegment (R356). -/
def execRet (s : State) : Result := .next (s.drop.goTo s.top)

/-- RET intrasegment with pop value (R357). -/
def execRetPop (pop : Word) (s : State) : Result :=
  .next ((s.drop.goTo s.top).setSp (s.drop.regs.sp + pop))

/-- RET intersegment (R358). -/
def execRetFar (s : State) : Result := .next (s.drop.drop.goFar s.drop.top s.top)

/-- RET intersegment with pop value (R359). -/
def execRetFarPop (pop : Word) (s : State) : Result :=
  .next ((s.drop.drop.goFar s.drop.top s.top).setSp (s.drop.drop.regs.sp + pop))

/-- JMP intrasegment direct (R360). -/
def execJmpNear (disp16 : Word) (s : State) : Result := .next (s.jump disp16)

/-- JMP intrasegment direct short (R361). -/
def execJmpShort (disp8 : Byte) (s : State) : Result := .next (s.jump (sext16 disp8))

/-- JMP intersegment direct (R362). -/
def execJmpFar (off sg : Word) (s : State) : Result := .next (s.goFar sg off)

/-- JMP intrasegment indirect (R363). -/
def execJmpInd (rm : Rm) (s : State) : Result := .next ((s.rmAfter .word rm).goTo (s.rmRead .word rm))

/-- JMP intersegment indirect; a register operand is refused (R364, D39). -/
def execJmpFarInd (rm : Rm) (s : State) : Result :=
  s.withMem rm fun seg off =>
    .next ((s.accesses 4).goFar (s.pointerSegment seg off) (s.pointerOffset seg off))

/-! ## Conditional jumps and loops -/

/-- JO (R366, R143). -/
def execJo (disp8 : Byte) (s : State) : Result := .next (s.jumpIf (Cond.holds s.flags .o) disp8)

/-- JNO (R366, R143). -/
def execJno (disp8 : Byte) (s : State) : Result := .next (s.jumpIf (Cond.holds s.flags .no) disp8)

/-- JB, JNAE, JC (R366, R143). -/
def execJb (disp8 : Byte) (s : State) : Result := .next (s.jumpIf (Cond.holds s.flags .b) disp8)

/-- JAE, JNB, JNC (R366, R143). -/
def execJae (disp8 : Byte) (s : State) : Result := .next (s.jumpIf (Cond.holds s.flags .ae) disp8)

/-- JE, JZ (R366, R143). -/
def execJe (disp8 : Byte) (s : State) : Result := .next (s.jumpIf (Cond.holds s.flags .e) disp8)

/-- JNE, JNZ (R366, R143). -/
def execJne (disp8 : Byte) (s : State) : Result := .next (s.jumpIf (Cond.holds s.flags .ne) disp8)

/-- JBE, JNA (R366, R143). -/
def execJbe (disp8 : Byte) (s : State) : Result := .next (s.jumpIf (Cond.holds s.flags .be) disp8)

/-- JA, JNBE (R366, R143). -/
def execJa (disp8 : Byte) (s : State) : Result := .next (s.jumpIf (Cond.holds s.flags .a) disp8)

/-- JS (R366, R143). -/
def execJs (disp8 : Byte) (s : State) : Result := .next (s.jumpIf (Cond.holds s.flags .s) disp8)

/-- JNS (R366, R143). -/
def execJns (disp8 : Byte) (s : State) : Result := .next (s.jumpIf (Cond.holds s.flags .ns) disp8)

/-- JP, JPE (R366, R143). -/
def execJp (disp8 : Byte) (s : State) : Result := .next (s.jumpIf (Cond.holds s.flags .p) disp8)

/-- JNP, JPO (R366, R143). -/
def execJnp (disp8 : Byte) (s : State) : Result := .next (s.jumpIf (Cond.holds s.flags .np) disp8)

/-- JL, JNGE (R366, R143). -/
def execJl (disp8 : Byte) (s : State) : Result := .next (s.jumpIf (Cond.holds s.flags .l) disp8)

/-- JGE, JNL (R366, R143). -/
def execJge (disp8 : Byte) (s : State) : Result := .next (s.jumpIf (Cond.holds s.flags .ge) disp8)

/-- JLE, JNG (R366, R143). -/
def execJle (disp8 : Byte) (s : State) : Result := .next (s.jumpIf (Cond.holds s.flags .le) disp8)

/-- JG, JNLE (R366, R143). -/
def execJg (disp8 : Byte) (s : State) : Result := .next (s.jumpIf (Cond.holds s.flags .g) disp8)

/-- JCXZ (R367). -/
def execJcxz (disp8 : Byte) (s : State) : Result := .next (s.jumpIf (decide (s.regs.cx = 0)) disp8)

/-- LOOP (R368). -/
def execLoop (disp8 : Byte) (s : State) : Result := .next (s.loopIf true disp8)

/-- LOOPE, LOOPZ (R369). -/
def execLoope (disp8 : Byte) (s : State) : Result := .next (s.loopIf s.flags.ZF disp8)

/-- LOOPNE, LOOPNZ (R370). -/
def execLoopne (disp8 : Byte) (s : State) : Result := .next (s.loopIf (!s.flags.ZF) disp8)

/-! ## Software interrupts and interrupt return -/

/-- INT 3, the one-byte form (R373). -/
def execInt3 (s : State) : Result := .next (s.interrupt 3 s.regs.ip)

/-- INT type (R372). -/
def execIntN (t : Byte) (s : State) : Result := .next (s.interrupt t s.regs.ip)

/-- INTO (R374). -/
def execInto (s : State) : Result := .next (if s.flags.OF then s.interrupt 4 s.regs.ip else s)

/-- IRET (R375). -/
def execIret (s : State) : Result := .next s.interruptReturn

end Sys2Proof.Machine
end

