-- ==== Sys2Proof/Machine/DataTransfer.lean ====
section
/-! DEFINITION. The data transfer instructions (40_data_transfer). -/

namespace Sys2Proof.Machine

/-! ## MOV -/

/-- MOV register/memory to or from register (R201). -/
def execMovRm (d : Dir) (w : Width) (rm : Rm) (r : Bits3) (s : State) : Result :=
  match d with
  | .toRm => .next (s.rmWrite w rm (s.reg w r))
  | .toReg => .next ((s.rmAfter w rm).setReg w r (s.rmRead w rm))

/-- MOV accumulator from memory by direct address (R202). -/
def execMovAccMem (w : Width) (addr : Word) (s : State) : Result :=
  .next ((s.afterRead w).setAcc w (s.readMem (s.segment .ds) addr w))

/-- MOV memory by direct address from accumulator (R202). -/
def execMovMemAcc (w : Width) (addr : Word) (s : State) : Result :=
  .next (s.writeMem (s.segment .ds) addr w (s.acc w))

/-- MOV register/memory from segment register (R203). -/
def execMovRmSeg (rm : Rm) (sr : SReg) (s : State) : Result :=
  .next (s.rmWrite .word rm (s.regs.getSeg sr))

/-- MOV segment register from register/memory; CS is refused; the interrupt shadow is set (R203, R28, R48). -/
def execMovSegRm (sr : SReg) (rm : Rm) (s : State) : Result :=
  if sr = .cs then .refused .csDestination
  else .next (((s.rmAfter .word rm).setSeg sr (s.rmRead .word rm)).setInhibit true)

/-- MOV register, immediate (R204). -/
def execMovRegImm (w : Width) (r : Bits3) (imm : BitVec w.bits) (s : State) : Result :=
  .next (s.setReg w r imm)

/-- MOV register/memory, immediate (R204). -/
def execMovRmImm (w : Width) (rm : Rm) (imm : BitVec w.bits) (s : State) : Result :=
  .next (s.rmWrite w rm imm)

/-! ## XLAT, LEA, LDS, LES -/

/-- XLAT (R205). -/
def execXlat (s : State) : Result :=
  .next ((s.afterRead .byte).setAcc .byte (s.read8 (s.segment .ds) (s.regs.bx + zext16 s.al)))

/-- LEA; a register operand is refused (R206, D39). -/
def execLea (r : Bits3) (rm : Rm) (s : State) : Result :=
  s.withMem rm fun _ off => .next (s.setReg16 r off)

/-- LES: both words are read before either register is written (R207). -/
def execLes (r : Bits3) (rm : Rm) (s : State) : Result :=
  s.withMem rm fun seg off =>
    .next (((s.accesses 4).setReg16 r (s.pointerOffset seg off)).setSeg .es (s.pointerSegment seg off))

/-- LDS: both words are read before either register is written (R207). -/
def execLds (r : Bits3) (rm : Rm) (s : State) : Result :=
  s.withMem rm fun seg off =>
    .next (((s.accesses 4).setReg16 r (s.pointerOffset seg off)).setSeg .ds (s.pointerSegment seg off))

/-! ## PUSH and POP -/

/-- The word PUSH stores for a register read after the decrement of SP (8086) or before it (R208, D23). -/
def State.pushSource (s : State) (r : Bits3) : Word :=
  match s.cfg.level with
  | .l8086 => (s.setSp (s.regs.sp - 2)).regs.get16 r
  | .l80286 => s.regs.get16 r
  | .l80386 => s.regs.get16 r

/-- PUSH general register (R208). -/
def execPushReg (r : Bits3) (s : State) : Result := .next (s.push (s.pushSource r))

/-- PUSH ES (R208). -/
def execPushEs (s : State) : Result := .next (s.push s.regs.es)

/-- PUSH CS (R208). -/
def execPushCs (s : State) : Result := .next (s.push s.regs.cs)

/-- PUSH SS (R208). -/
def execPushSs (s : State) : Result := .next (s.push s.regs.ss)

/-- PUSH DS (R208). -/
def execPushDs (s : State) : Result := .next (s.push s.regs.ds)

/-- A push of a word operand that is read first (R208). -/
def State.pushMem (s : State) (rm : Rm) : State := (s.rmAfter .word rm).push (s.rmRead .word rm)

/-- PUSH register/memory: a memory source is read where it stands before SP changes (R208). -/
def execPushRm (rm : Rm) (s : State) : Result :=
  match rm with
  | .reg r => .next (s.push (s.pushSource r))
  | .direct d => .next (s.pushMem (.direct d))
  | .base b => .next (s.pushMem (.base b))
  | .disp8 b d => .next (s.pushMem (.disp8 b d))
  | .disp16 b d => .next (s.pushMem (.disp16 b d))

/-- POP general register: SP is incremented, then the register is written (R210). -/
def execPopReg (r : Bits3) (s : State) : Result := .next (s.drop.setReg16 r s.top)

/-- POP into a segment register, which sets the interrupt shadow (R210, R48). -/
def State.popSeg (s : State) (sr : SReg) : State := (s.drop.setSeg sr s.top).setInhibit true

/-- POP ES (R210). -/
def execPopEs (s : State) : Result := .next (s.popSeg .es)

/-- POP SS (R210). -/
def execPopSs (s : State) : Result := .next (s.popSeg .ss)

/-- POP DS (R210). -/
def execPopDs (s : State) : Result := .next (s.popSeg .ds)

/-- POP register/memory: the EA comes from the registers before the instruction (R210). -/
def execPopRm (rm : Rm) (s : State) : Result :=
  .next (s.drop.writePlace .word (s.place rm) s.top)

/-- PUSHF (R212). -/
def execPushf (s : State) : Result := .next (s.push s.flagsImage)

/-- POPF (R213). -/
def execPopf (s : State) : Result := .next (s.drop.setFlags (Flags.ofWord s.top))

/-! ## LAHF, SAHF, XCHG -/

/-- LAHF (R214). -/
def execLahf (s : State) : Result := .next (s.setReg .byte .b100 (lowByte s.flagsImage))

/-- SAHF (R215). -/
def execSahf (s : State) : Result := .next (s.setFlags (s.flags.setLow s.ah))

/-- XCHG register/memory with register (R216): the bus is locked from its read to its write, without a prefix
too (D37; log 36). -/
def execXchgRm (w : Width) (rm : Rm) (r : Bits3) (s : State) : Result :=
  let u := s.setBusLock true
  .next ((((u.rmAfter w rm).rmWrite w rm (s.reg w r)).setReg w r (u.rmRead w rm)).setBusLock s.ctl.busLock)

/-- XCHG AX with a word register (R216). -/
def execXchgAcc (r : Bits3) (s : State) : Result :=
  .next ((s.setAx (s.regs.get16 r)).setReg16 r s.regs.ax)

/-! ## IN and OUT -/

/-- IN, fixed port (R218). -/
def execInFixed (w : Width) (port : Byte) (s : State) : Result :=
  .next ((s.ioRead (zext16 port) w).setAcc w (s.ioValue (zext16 port) w))

/-- IN, variable port (R218). -/
def execInDx (w : Width) (s : State) : Result :=
  .next ((s.ioRead s.regs.dx w).setAcc w (s.ioValue s.regs.dx w))

/-- OUT, fixed port (R219). -/
def execOutFixed (w : Width) (port : Byte) (s : State) : Result :=
  .next (s.ioWrite (zext16 port) w (s.acc w))

/-- OUT, variable port (R219). -/
def execOutDx (w : Width) (s : State) : Result :=
  .next (s.ioWrite s.regs.dx w (s.acc w))

end Sys2Proof.Machine
end

