-- ==== Sys2Proof/Machine/Strings.lean ====
section
/-! DEFINITION. The string instructions and the repeat prefixes (43_string). -/

namespace Sys2Proof.Machine

/-! ## Common part -/

/-- The change of an index register: the element's size, up when DF = 0 and down when DF = 1 (R330). -/
def State.indexStep (s : State) (w : Width) : Word := if s.flags.DF then 0 - w.bytes else w.bytes

/-- SI stepped (R330). -/
def State.stepSi (s : State) (w : Width) : State :=
  { s with regs := { s.regs with si := s.regs.si + s.indexStep w } }

/-- DI stepped (R330). -/
def State.stepDi (s : State) (w : Width) : State :=
  { s with regs := { s.regs with di := s.regs.di + s.indexStep w } }

/-- The source element, at `SEG_src:SI` (R331). -/
def State.stringSource (s : State) (w : Width) : BitVec w.bits := s.readMem (s.segment .ds) s.regs.si w

/-- The destination element, at ES:DI, which no override changes (R331). -/
def State.stringDest (s : State) (w : Width) : BitVec w.bits := s.readMem s.regs.es s.regs.di w

/-- The destination element <- v. -/
def State.setStringDest (s : State) (w : Width) (v : BitVec w.bits) : State :=
  s.writeMem s.regs.es s.regs.di w v

/-! ## Repetition -/

/-- Whether a comparison ends the repetition: ZF does not match the prefix (R339). -/
def Rep.mismatch (p : Rep) (zf : Bool) : Bool :=
  match p with
  | .rep => !zf
  | .repne => zf

/-- The next iteration is still to come: IP is at the first prefix byte, where an interrupt in the window
saves it (R340), and the instruction goes on without a new fetch (log 8). -/
def State.suspend (s : State) (i : Instr) (ipNext : Word) : State :=
  { s with
    regs := { s.regs with ip := s.ctl.startIp }
    ctl := { s.ctl with resume := some ⟨i, ipNext⟩ } }

/-- One iteration of a string instruction `i` under its repeat prefix, or the single operation without one
(R339). `compares` holds for CMPS and SCAS. -/
def State.repeated (s : State) (i : Instr) (compares : Bool) (once : State → State) : State :=
  match s.ctl.pfx.rep with
  | none => once s
  | some p =>
    if s.regs.cx = 0 then s
    else
      let t := (once s).setCx (s.regs.cx - 1)
      if compares && p.mismatch t.flags.ZF then t
      else if t.regs.cx = 0 then t
      else t.suspend i s.regs.ip

/-! ## The instructions -/

/-- One MOVS: the read before the write (R332). -/
def State.movsOnce (w : Width) (s : State) : State :=
  (((s.afterRead w).setStringDest w (s.stringSource w)).stepSi w).stepDi w

/-- One CMPS: source minus destination, the source read first (R333, R83). -/
def State.cmpsOnce (w : Width) (s : State) : State :=
  let u := s.afterRead w
  (((u.afterRead w).setFlags (s.flags.sub (s.stringSource w) (u.stringDest w) false)).stepSi w).stepDi w

/-- One SCAS: accumulator minus destination (R334). -/
def State.scasOnce (w : Width) (s : State) : State :=
  ((s.afterRead w).setFlags (s.flags.sub (s.acc w) (s.stringDest w) false)).stepDi w

/-- One LODS (R335). -/
def State.lodsOnce (w : Width) (s : State) : State := ((s.afterRead w).setAcc w (s.stringSource w)).stepSi w

/-- One STOS (R336). -/
def State.stosOnce (w : Width) (s : State) : State := (s.setStringDest w (s.acc w)).stepDi w

/-- MOVS (R332, R339). -/
def execMovs (w : Width) (s : State) : Result := .next (s.repeated (.movs w) false (State.movsOnce w))

/-- CMPS (R333, R339). -/
def execCmps (w : Width) (s : State) : Result := .next (s.repeated (.cmps w) true (State.cmpsOnce w))

/-- SCAS (R334, R339). -/
def execScas (w : Width) (s : State) : Result := .next (s.repeated (.scas w) true (State.scasOnce w))

/-- LODS (R335, R339). -/
def execLods (w : Width) (s : State) : Result := .next (s.repeated (.lods w) false (State.lodsOnce w))

/-- STOS (R336, R339). -/
def execStos (w : Width) (s : State) : Result := .next (s.repeated (.stos w) false (State.stosOnce w))

/-- A repeat prefix; a second one before the same opcode is refused (R126, R338). -/
def State.repPrefix (s : State) (p : Rep) : Result :=
  if s.ctl.pfx.rep.isSome then .refused .duplicatePrefix
  else .next (s.setPfx { s.ctl.pfx with rep := some p })

/-- REP, REPE, REPZ (R338). -/
def execRep (s : State) : Result := s.repPrefix .rep

/-- REPNE, REPNZ (R338). -/
def execRepne (s : State) : Result := s.repPrefix .repne

end Sys2Proof.Machine
end

