-- ==== Sys2Proof/Machine/Ext286.lean ====
section
/-! DEFINITION. The 80286 real-mode instructions other than the shifts (47_80286); the shifts by an
immediate count are in Logic.lean. -/

namespace Sys2Proof.Machine

/-- The 16-bit product of IMUL with an immediate; CF and OF say whether it fits (R450). -/
def State.imul3 (s : State) (r : Bits3) (a b : Word) : State :=
  (s.setReg16 r (BitVec.ofInt 16 (a.toInt * b.toInt))).multiplyFlags
    (decide (a.toInt * b.toInt < -32768 ∨ 32767 < a.toInt * b.toInt))

/-- IMUL r16, r/m16, imm16 (R450). -/
def execImul3 (r : Bits3) (rm : Rm) (imm16 : Word) (s : State) : Result :=
  .next ((s.rmAfter .word rm).imul3 r (s.rmRead .word rm) imm16)

/-- IMUL r16, r/m16, imm8 (R450). -/
def execImul3S (r : Bits3) (rm : Rm) (imm8 : Byte) (s : State) : Result :=
  .next ((s.rmAfter .word rm).imul3 r (s.rmRead .word rm) (sext16 imm8))

/-- One INS: port DX to ES:DI (R452). -/
def State.insOnce (w : Width) (s : State) : State :=
  ((s.ioRead s.regs.dx w).setStringDest w (s.ioValue s.regs.dx w)).stepDi w

/-- One OUTS: SEG_src:SI to port DX (R453). -/
def State.outsOnce (w : Width) (s : State) : State :=
  ((s.afterRead w).ioWrite s.regs.dx w (s.stringSource w)).stepSi w

/-- INS (R452, R339). -/
def execIns (w : Width) (s : State) : Result := .next (s.repeated (.ins w) false (State.insOnce w))

/-- OUTS (R453, R339). -/
def execOuts (w : Width) (s : State) : Result := .next (s.repeated (.outs w) false (State.outsOnce w))

/-- PUSHA: the SP pushed is the original one (R456). -/
def execPusha (s : State) : Result :=
  .next ((((((((s.push s.regs.ax).push s.regs.cx).push s.regs.dx).push s.regs.bx).push s.regs.sp).push
    s.regs.bp).push s.regs.si).push s.regs.di)

/-- Word k of the stack, counted from its top, read after the words before it (R455). -/
def State.stackWord (s : State) (k : Nat) : Word :=
  (s.accesses (2 * k)).read16 s.regs.ss (s.regs.sp + BitVec.ofNat 16 (2 * k))

/-- POPA: the word in the place of SP is read and discarded (R455, U25). -/
def execPopa (s : State) : Result :=
  .next { s.accesses 16 with
    regs := { s.regs with
      di := s.stackWord 0, si := s.stackWord 1, bp := s.stackWord 2, bx := s.stackWord 4
      dx := s.stackWord 5, cx := s.stackWord 6, ax := s.stackWord 7, sp := s.regs.sp + 16 } }

/-- PUSH imm16 (R457). -/
def execPushImm16 (imm16 : Word) (s : State) : Result := .next (s.push imm16)

/-- PUSH imm8, sign-extended (R457). -/
def execPushImm8 (imm8 : Byte) (s : State) : Result := .next (s.push (sext16 imm8))

end Sys2Proof.Machine
end

