-- ==== Sys2Proof/Machine/Ext386.lean ====
section
/-! DEFINITION. The 80386 real-mode instructions, in their 16-bit forms (48_80386). -/

namespace Sys2Proof.Machine

/-! ## Bit scans -/

/-- The lowest of the bits 16 - k to 15 that is set, searched upward (R470). -/
def lowestBit (v : Word) : Nat → Nat
  | 0 => 0
  | k + 1 => if v.getLsbD (15 - k) then 15 - k else lowestBit v k

/-- The highest of the bits k - 1 to 0 that is set, searched downward (R470). -/
def highestBit (v : Word) : Nat → Nat
  | 0 => 0
  | k + 1 => if v.getLsbD k then k else highestBit v k

/-- BSF and BSR: ZF by BSX_ZF_WHEN_ZERO, the destination written when the source is not zero (R470). -/
def State.scan (s : State) (r : Bits3) (v : Word) (position : Nat) : State :=
  if v = 0 then s.setFlags { s.flags with ZF := s.cfg.bsxZfWhenZero }
  else (s.setFlags { s.flags with ZF := !s.cfg.bsxZfWhenZero }).setReg16 r (BitVec.ofNat 16 position)

/-- BSF (R470). -/
def execBsf (r : Bits3) (rm : Rm) (s : State) : Result :=
  .next ((s.rmAfter .word rm).scan r (s.rmRead .word rm) (lowestBit (s.rmRead .word rm) 16))

/-- BSR (R470). -/
def execBsr (r : Bits3) (rm : Rm) (s : State) : Result :=
  .next ((s.rmAfter .word rm).scan r (s.rmRead .word rm) (highestBit (s.rmRead .word rm) 16))

/-! ## Bit tests -/

/-- CF <- the bit of the destination word at the position modulo 16 (R472, R473). -/
def State.testBit (s : State) (d : Word) (position : Nat) : State :=
  s.setFlags { s.flags with CF := d.getLsbD (position % 16) }

/-- The word with one bit set, at the position modulo 16 (R472). -/
def bitMask (position : Nat) : Word := 1#16 <<< (position % 16)

/-- BT, BTS, BTR and BTC on the R/M word: CF from the old word, then the word written (R474 to R476). -/
def State.changeBit (s : State) (rm : Rm) (position : Nat) (change : Word → Word → Word) : State :=
  ((s.rmAfter .word rm).testBit (s.rmRead .word rm) position).rmWrite .word rm (change (s.rmRead .word rm) (bitMask position))

/-- BT with a register (R473). -/
def execBt (rm : Rm) (r : Bits3) (s : State) : Result :=
  .next ((s.rmAfter .word rm).testBit (s.rmRead .word rm) (s.regs.get16 r).toNat)

/-- BTS with a register (R474). -/
def execBts (rm : Rm) (r : Bits3) (s : State) : Result :=
  .next (s.changeBit rm (s.regs.get16 r).toNat fun d m => d ||| m)

/-- BTR with a register (R475). -/
def execBtr (rm : Rm) (r : Bits3) (s : State) : Result :=
  .next (s.changeBit rm (s.regs.get16 r).toNat fun d m => d &&& ~~~ m)

/-- BTC with a register (R476). -/
def execBtc (rm : Rm) (r : Bits3) (s : State) : Result :=
  .next (s.changeBit rm (s.regs.get16 r).toNat fun d m => d ^^^ m)

/-- BT with an immediate (R473). -/
def execBtImm (rm : Rm) (imm8 : Byte) (s : State) : Result :=
  .next ((s.rmAfter .word rm).testBit (s.rmRead .word rm) imm8.toNat)

/-- BTS with an immediate (R474). -/
def execBtsImm (rm : Rm) (imm8 : Byte) (s : State) : Result :=
  .next (s.changeBit rm imm8.toNat fun d m => d ||| m)

/-- BTR with an immediate (R475). -/
def execBtrImm (rm : Rm) (imm8 : Byte) (s : State) : Result :=
  .next (s.changeBit rm imm8.toNat fun d m => d &&& ~~~ m)

/-- BTC with an immediate (R476). -/
def execBtcImm (rm : Rm) (imm8 : Byte) (s : State) : Result :=
  .next (s.changeBit rm imm8.toNat fun d m => d ^^^ m)

/-! ## Moves with extension -/

/-- MOVSX: byte source, word destination (R477). -/
def execMovsx (r : Bits3) (rm : Rm) (s : State) : Result :=
  .next ((s.rmAfter .byte rm).setReg16 r (sext16 (s.rmRead .byte rm)))

/-- MOVZX: byte source, word destination (R478). -/
def execMovzx (r : Bits3) (rm : Rm) (s : State) : Result :=
  .next ((s.rmAfter .byte rm).setReg16 r (zext16 (s.rmRead .byte rm)))

/-! ## Set byte on condition -/

/-- The R/M byte <- 1 or 0 (R480). -/
def State.setByteIf (s : State) (rm : Rm) (c : Bool) : State :=
  s.rmWrite .byte rm (if c then 0x01#8 else 0x00#8)

/-- SETO (R480, R143). -/
def execSeto (rm : Rm) (s : State) : Result := .next (s.setByteIf rm (Cond.holds s.flags .o))

/-- SETNO (R480, R143). -/
def execSetno (rm : Rm) (s : State) : Result := .next (s.setByteIf rm (Cond.holds s.flags .no))

/-- SETB, SETNAE, SETC (R480, R143). -/
def execSetb (rm : Rm) (s : State) : Result := .next (s.setByteIf rm (Cond.holds s.flags .b))

/-- SETAE, SETNB, SETNC (R480, R143). -/
def execSetae (rm : Rm) (s : State) : Result := .next (s.setByteIf rm (Cond.holds s.flags .ae))

/-- SETE, SETZ (R480, R143). -/
def execSete (rm : Rm) (s : State) : Result := .next (s.setByteIf rm (Cond.holds s.flags .e))

/-- SETNE, SETNZ (R480, R143). -/
def execSetne (rm : Rm) (s : State) : Result := .next (s.setByteIf rm (Cond.holds s.flags .ne))

/-- SETBE, SETNA (R480, R143). -/
def execSetbe (rm : Rm) (s : State) : Result := .next (s.setByteIf rm (Cond.holds s.flags .be))

/-- SETA, SETNBE (R480, R143). -/
def execSeta (rm : Rm) (s : State) : Result := .next (s.setByteIf rm (Cond.holds s.flags .a))

/-- SETS (R480, R143). -/
def execSets (rm : Rm) (s : State) : Result := .next (s.setByteIf rm (Cond.holds s.flags .s))

/-- SETNS (R480, R143). -/
def execSetns (rm : Rm) (s : State) : Result := .next (s.setByteIf rm (Cond.holds s.flags .ns))

/-- SETP, SETPE (R480, R143). -/
def execSetp (rm : Rm) (s : State) : Result := .next (s.setByteIf rm (Cond.holds s.flags .p))

/-- SETNP, SETPO (R480, R143). -/
def execSetnp (rm : Rm) (s : State) : Result := .next (s.setByteIf rm (Cond.holds s.flags .np))

/-- SETL, SETNGE (R480, R143). -/
def execSetl (rm : Rm) (s : State) : Result := .next (s.setByteIf rm (Cond.holds s.flags .l))

/-- SETGE, SETNL (R480, R143). -/
def execSetge (rm : Rm) (s : State) : Result := .next (s.setByteIf rm (Cond.holds s.flags .ge))

/-- SETLE, SETNG (R480, R143). -/
def execSetle (rm : Rm) (s : State) : Result := .next (s.setByteIf rm (Cond.holds s.flags .le))

/-- SETG, SETNLE (R480, R143). -/
def execSetg (rm : Rm) (s : State) : Result := .next (s.setByteIf rm (Cond.holds s.flags .g))

/-! ## Double-precision shifts -/

/-- The count of SHLD and SHRD (R482). -/
def doubleCount (cnt : Byte) : Nat := (cnt &&& 0x1F).toNat

/-- The result and CF of SHLD for a count of 1 to 16 (R483). -/
def shldResult (d v : Word) (c : Nat) : Word × Bool :=
  (((d ++ v : BitVec 32) <<< c).extractLsb' 16 16, d.getLsbD (16 - c))

/-- The result and CF of SHRD for a count of 1 to 16 (R484). -/
def shrdResult (d v : Word) (c : Nat) : Word × Bool :=
  (((v ++ d : BitVec 32) >>> c).extractLsb' 0 16, d.getLsbD (c - 1))

/-- SHLD and SHRD by a masked count, once the destination has been read: nothing at 0, where R482 and D42 do not
say whether a memory destination is read, and the model reads it (DESIGN CHOICE, log 38); the rule's result at 1
to 16; at 17 to 31 the destination and the six flags are undefined (R482, D42; log 11). -/
def State.doubleShift (s : State) (rm : Rm) (c : Nat) (result : Word × Bool) : State :=
  if c = 0 then s
  else if c ≤ 16 then
    ((s.rmWrite .word rm result.1).setFlags
      { s.flags.szp result.1 with
        CF := result.2, OF := Config.freeBit s.draws, AF := Config.freeBit (s.draws + 1) }).drawn 2
  else
    ((s.rmWrite .word rm (Config.freeWord (s.draws + 6))).setFlags (s.flags.undefined s.draws)).drawn 7

/-- SHLD, immediate count (R482, R483); the destination is read for every count (DESIGN CHOICE, log 38). -/
def execShldImm (rm : Rm) (r : Bits3) (cnt : Byte) (s : State) : Result :=
  .next ((s.rmAfter .word rm).doubleShift rm (doubleCount cnt)
    (shldResult (s.rmRead .word rm) (s.regs.get16 r) (doubleCount cnt)))

/-- SHLD, count in CL (R482, R483); the destination is read for every count (DESIGN CHOICE, log 38). -/
def execShldCl (rm : Rm) (r : Bits3) (s : State) : Result :=
  .next ((s.rmAfter .word rm).doubleShift rm (doubleCount s.cl)
    (shldResult (s.rmRead .word rm) (s.regs.get16 r) (doubleCount s.cl)))

/-- SHRD, immediate count (R482, R484); the destination is read for every count (DESIGN CHOICE, log 38). -/
def execShrdImm (rm : Rm) (r : Bits3) (cnt : Byte) (s : State) : Result :=
  .next ((s.rmAfter .word rm).doubleShift rm (doubleCount cnt)
    (shrdResult (s.rmRead .word rm) (s.regs.get16 r) (doubleCount cnt)))

/-- SHRD, count in CL (R482, R484); the destination is read for every count (DESIGN CHOICE, log 38). -/
def execShrdCl (rm : Rm) (r : Bits3) (s : State) : Result :=
  .next ((s.rmAfter .word rm).doubleShift rm (doubleCount s.cl)
    (shrdResult (s.rmRead .word rm) (s.regs.get16 r) (doubleCount s.cl)))

end Sys2Proof.Machine
end

