-- ==== Sys2Proof/Machine/Fpu.lean ====
section
/-! DEFINITION. The 8087 instructions (46_8087): operand roles and stack discipline; the numerics are the
uninterpreted constants of Config (R423; log 20). The operation completes inside the ESC step (R420; log 22). -/

namespace Sys2Proof.Machine

/-! ## Shared operations -/

/-- The number of a stack register. -/
def stIndex (n : Bits3) : Nat := n.bits.toNat

/-- `ST(dest) <- f(ST(dest), ST(src))`; both registers must not be empty (R420). -/
def State.stArith (s : State) (f : TReal → TReal → TReal) (dest src : Nat) : Result :=
  s.withSt dest fun x => s.withSt src fun y => .next (s.setSt dest (f x y))

/-- `ST(1) <- f(ST(1), ST(0)); pop` (R426 to R429, first form). -/
def State.stArithPop (s : State) (f : TReal → TReal → TReal) : Result :=
  s.withSt 1 fun x => s.withSt 0 fun y => .next (s.setSt 1 (f x y)).fpuPop

/-- The value of an operand in memory, and the state after its read. -/
abbrev FpuRead := State → Word → Word → TReal × State

/-- What a store of a temporary real to memory makes of a state. -/
abbrev FpuStore := State → Word → Word → TReal → State

/-- `ST(0) <- f(ST(0), operand)`, the operand read from memory (R426 to R433). -/
def State.stArithMem (s : State) (f : TReal → TReal → TReal) (rm : Rm) (operand : FpuRead) : Result :=
  s.withEscMem rm fun u seg off =>
    let o := operand u seg off
    o.2.withSt 0 fun x => .next (o.2.setSt 0 (f x o.1))

/-- `push operand`, the operand read from memory (R434, R437, R440). -/
def State.stLoad (s : State) (rm : Rm) (operand : FpuRead) : Result :=
  s.withEscMem rm fun u seg off =>
    let o := operand u seg off
    o.2.fpuPush o.1

/-- A store of ST(0) to memory (R435, R438). -/
def State.stStore (s : State) (rm : Rm) (store : FpuStore) : Result :=
  s.withEscMem rm fun u seg off => u.withSt 0 fun x => .next (store u seg off x)

/-- A store of ST(0) to memory, then the stack is popped (R436, R439, R441). -/
def State.stStorePop (s : State) (rm : Rm) (store : FpuStore) : Result :=
  s.withEscMem rm fun u seg off => u.withSt 0 fun x => .next (store u seg off x).fpuPop

/-! ## Operands in memory (R422) -/

/-- A short real. -/
def State.real32 : FpuRead := fun s seg off => (Config.ofReal32 (s.read32 seg off), s.accesses 4)

/-- A long real. -/
def State.real64 : FpuRead := fun s seg off => (Config.ofReal64 (s.read64 seg off), s.accesses 8)

/-- A temporary real, which is the content of a register (R422). -/
def State.real80 : FpuRead := fun s seg off => (s.read80 seg off, s.accesses 10)

/-- A word integer. -/
def State.int16 : FpuRead := fun s seg off => (Config.ofInt16 (s.read16 seg off), s.accesses 2)

/-- A short integer. -/
def State.int32 : FpuRead := fun s seg off => (Config.ofInt32 (s.read32 seg off), s.accesses 4)

/-- A long integer. -/
def State.int64 : FpuRead := fun s seg off => (Config.ofInt64 (s.read64 seg off), s.accesses 8)

/-- A packed decimal. -/
def State.bcd : FpuRead := fun s seg off => (Config.ofBcd (s.read80 seg off), s.accesses 10)

/-! ## FADD (R426) -/

/-- FADD, no operand. -/
def execFaddP (s : State) : Result := s.stArithPop Config.fadd

/-- FADD, short real. -/
def execFaddM32 (rm : Rm) (s : State) : Result := s.stArithMem Config.fadd rm State.real32

/-- FADD, long real. -/
def execFaddM64 (rm : Rm) (s : State) : Result := s.stArithMem Config.fadd rm State.real64

/-- FADD ST, ST(i). -/
def execFaddStSti (sti : Bits3) (s : State) : Result := s.stArith Config.fadd 0 (stIndex sti)

/-- FADD ST(i), ST. -/
def execFaddStiSt (sti : Bits3) (s : State) : Result := s.stArith Config.fadd (stIndex sti) 0

/-! ## FSUB (R427) -/

/-- FSUB, no operand. -/
def execFsubP (s : State) : Result := s.stArithPop Config.fsub

/-- FSUB, short real. -/
def execFsubM32 (rm : Rm) (s : State) : Result := s.stArithMem Config.fsub rm State.real32

/-- FSUB, long real. -/
def execFsubM64 (rm : Rm) (s : State) : Result := s.stArithMem Config.fsub rm State.real64

/-- FSUB ST, ST(i). -/
def execFsubStSti (sti : Bits3) (s : State) : Result := s.stArith Config.fsub 0 (stIndex sti)

/-- FSUB ST(i), ST. -/
def execFsubStiSt (sti : Bits3) (s : State) : Result := s.stArith Config.fsub (stIndex sti) 0

/-! ## FMUL (R428) -/

/-- FMUL, no operand. -/
def execFmulP (s : State) : Result := s.stArithPop Config.fmul

/-- FMUL, short real. -/
def execFmulM32 (rm : Rm) (s : State) : Result := s.stArithMem Config.fmul rm State.real32

/-- FMUL, long real. -/
def execFmulM64 (rm : Rm) (s : State) : Result := s.stArithMem Config.fmul rm State.real64

/-- FMUL ST, ST(i). -/
def execFmulStSti (sti : Bits3) (s : State) : Result := s.stArith Config.fmul 0 (stIndex sti)

/-- FMUL ST(i), ST. -/
def execFmulStiSt (sti : Bits3) (s : State) : Result := s.stArith Config.fmul (stIndex sti) 0

/-! ## FDIV (R429) -/

/-- FDIV, no operand. -/
def execFdivP (s : State) : Result := s.stArithPop Config.fdiv

/-- FDIV, short real. -/
def execFdivM32 (rm : Rm) (s : State) : Result := s.stArithMem Config.fdiv rm State.real32

/-- FDIV, long real. -/
def execFdivM64 (rm : Rm) (s : State) : Result := s.stArithMem Config.fdiv rm State.real64

/-- FDIV ST, ST(i). -/
def execFdivStSti (sti : Bits3) (s : State) : Result := s.stArith Config.fdiv 0 (stIndex sti)

/-- FDIV ST(i), ST. -/
def execFdivStiSt (sti : Bits3) (s : State) : Result := s.stArith Config.fdiv (stIndex sti) 0

/-! ## Integer arithmetic -/

/-- FIADD, word integer (R430). -/
def execFiaddM16 (rm : Rm) (s : State) : Result := s.stArithMem Config.fadd rm State.int16

/-- FIADD, short integer (R430). -/
def execFiaddM32 (rm : Rm) (s : State) : Result := s.stArithMem Config.fadd rm State.int32

/-- FISUB, word integer (R431). -/
def execFisubM16 (rm : Rm) (s : State) : Result := s.stArithMem Config.fsub rm State.int16

/-- FISUB, short integer (R431). -/
def execFisubM32 (rm : Rm) (s : State) : Result := s.stArithMem Config.fsub rm State.int32

/-- FIMUL, word integer (R432). -/
def execFimulM16 (rm : Rm) (s : State) : Result := s.stArithMem Config.fmul rm State.int16

/-- FIMUL, short integer (R432). -/
def execFimulM32 (rm : Rm) (s : State) : Result := s.stArithMem Config.fmul rm State.int32

/-- FIDIV, word integer (R433). -/
def execFidivM16 (rm : Rm) (s : State) : Result := s.stArithMem Config.fdiv rm State.int16

/-- FIDIV, short integer (R433). -/
def execFidivM32 (rm : Rm) (s : State) : Result := s.stArithMem Config.fdiv rm State.int32

/-! ## Loads and stores -/

/-- FLD, short real (R434). -/
def execFldM32 (rm : Rm) (s : State) : Result := s.stLoad rm State.real32

/-- FLD, long real (R434). -/
def execFldM64 (rm : Rm) (s : State) : Result := s.stLoad rm State.real64

/-- FLD, temporary real (R434). -/
def execFldM80 (rm : Rm) (s : State) : Result := s.stLoad rm State.real80

/-- FLD ST(i): read before the push (R434). -/
def execFldSti (sti : Bits3) (s : State) : Result := s.withSt (stIndex sti) s.fpuPush

/-- FST, short real (R435). -/
def execFstM32 (rm : Rm) (s : State) : Result :=
  s.stStore rm fun u seg off x => u.write32 seg off (Config.toReal32 x)

/-- FST, long real (R435). -/
def execFstM64 (rm : Rm) (s : State) : Result :=
  s.stStore rm fun u seg off x => u.write64 seg off (Config.toReal64 x)

/-- FST ST(i) (R435). -/
def execFstSti (sti : Bits3) (s : State) : Result :=
  s.withSt 0 fun x => s.ifSt (stIndex sti) (s.setSt (stIndex sti) x)

/-- FSTP, short real (R436). -/
def execFstpM32 (rm : Rm) (s : State) : Result :=
  s.stStorePop rm fun u seg off x => u.write32 seg off (Config.toReal32 x)

/-- FSTP, long real (R436). -/
def execFstpM64 (rm : Rm) (s : State) : Result :=
  s.stStorePop rm fun u seg off x => u.write64 seg off (Config.toReal64 x)

/-- FSTP, temporary real: exact (R436). -/
def execFstpM80 (rm : Rm) (s : State) : Result := s.stStorePop rm fun u seg off x => u.write80 seg off x

/-- FSTP ST(i) (R436). -/
def execFstpSti (sti : Bits3) (s : State) : Result :=
  s.withSt 0 fun x => s.ifSt (stIndex sti) (s.setSt (stIndex sti) x).fpuPop

/-- FILD, word integer (R437). -/
def execFildM16 (rm : Rm) (s : State) : Result := s.stLoad rm State.int16

/-- FILD, short integer (R437). -/
def execFildM32 (rm : Rm) (s : State) : Result := s.stLoad rm State.int32

/-- FILD, long integer (R437). -/
def execFildM64 (rm : Rm) (s : State) : Result := s.stLoad rm State.int64

/-- FIST, word integer (R438). -/
def execFistM16 (rm : Rm) (s : State) : Result :=
  s.stStore rm fun u seg off x => u.write16 seg off (Config.toInt16 x)

/-- FIST, short integer (R438). -/
def execFistM32 (rm : Rm) (s : State) : Result :=
  s.stStore rm fun u seg off x => u.write32 seg off (Config.toInt32 x)

/-- FISTP, word integer (R439). -/
def execFistpM16 (rm : Rm) (s : State) : Result :=
  s.stStorePop rm fun u seg off x => u.write16 seg off (Config.toInt16 x)

/-- FISTP, short integer (R439). -/
def execFistpM32 (rm : Rm) (s : State) : Result :=
  s.stStorePop rm fun u seg off x => u.write32 seg off (Config.toInt32 x)

/-- FISTP, long integer (R439). -/
def execFistpM64 (rm : Rm) (s : State) : Result :=
  s.stStorePop rm fun u seg off x => u.write64 seg off (Config.toInt64 x)

/-- FBLD (R440). -/
def execFbld (rm : Rm) (s : State) : Result := s.stLoad rm State.bcd

/-- FBSTP (R441). -/
def execFbstp (rm : Rm) (s : State) : Result :=
  s.stStorePop rm fun u seg off x => u.write80 seg off (Config.toBcd x)

end Sys2Proof.Machine
end

