-- ==== Sys2Proof/Machine/Logic.lean ====
section
/-! DEFINITION. The logic, shift and rotate instructions (42_logic_shift_rotate). -/

namespace Sys2Proof.Machine

/-! ## Bitwise logic -/

/-- A result with the flags of `Logic_N`, AF undefined (R290). -/
def State.logicFlags {n : Nat} (s : State) (r : BitVec n) : State :=
  (s.setFlags (s.flags.logic r (Config.freeBit s.draws))).drawn 1

/-- AND (R291). -/
def opAnd {w : Width} : BinaryOp w := fun a b s => (a &&& b, s.logicFlags (a &&& b))

/-- OR (R292). -/
def opOr {w : Width} : BinaryOp w := fun a b s => (a ||| b, s.logicFlags (a ||| b))

/-- XOR (R293). -/
def opXor {w : Width} : BinaryOp w := fun a b s => (a ^^^ b, s.logicFlags (a ^^^ b))

/-- AND, form 1 (R291, R244). -/
def execAndRm (d : Dir) (w : Width) (rm : Rm) (r : Bits3) (s : State) : Result :=
  .next (s.formRm d w rm r opAnd)

/-- AND accumulator, immediate (R291). -/
def execAndAcc (w : Width) (imm : BitVec w.bits) (s : State) : Result := .next (s.formAcc w imm opAnd)

/-- AND r/m, immediate (R291). -/
def execAndImm (w : Width) (rm : Rm) (imm : BitVec w.bits) (s : State) : Result :=
  .next (s.formImm w rm imm opAnd)

/-- OR, form 1 (R292, R244). -/
def execOrRm (d : Dir) (w : Width) (rm : Rm) (r : Bits3) (s : State) : Result :=
  .next (s.formRm d w rm r opOr)

/-- OR accumulator, immediate (R292). -/
def execOrAcc (w : Width) (imm : BitVec w.bits) (s : State) : Result := .next (s.formAcc w imm opOr)

/-- OR r/m, immediate (R292). -/
def execOrImm (w : Width) (rm : Rm) (imm : BitVec w.bits) (s : State) : Result :=
  .next (s.formImm w rm imm opOr)

/-- XOR, form 1 (R293, R244). -/
def execXorRm (d : Dir) (w : Width) (rm : Rm) (r : Bits3) (s : State) : Result :=
  .next (s.formRm d w rm r opXor)

/-- XOR accumulator, immediate (R293). -/
def execXorAcc (w : Width) (imm : BitVec w.bits) (s : State) : Result := .next (s.formAcc w imm opXor)

/-- XOR r/m, immediate (R293). -/
def execXorImm (w : Width) (rm : Rm) (imm : BitVec w.bits) (s : State) : Result :=
  .next (s.formImm w rm imm opXor)

/-- NOT: no flag changes (R294). -/
def execNot (w : Width) (rm : Rm) (s : State) : Result :=
  .next ((s.rmAfter w rm).rmWrite w rm (~~~ (s.rmRead w rm)))

/-- TEST r/m, register (R295). -/
def execTestRm (w : Width) (rm : Rm) (r : Bits3) (s : State) : Result :=
  .next ((s.rmAfter w rm).logicFlags (s.rmRead w rm &&& s.reg w r))

/-- TEST accumulator, immediate (R295). -/
def execTestAcc (w : Width) (imm : BitVec w.bits) (s : State) : Result :=
  .next (s.logicFlags (s.acc w &&& imm))

/-- TEST r/m, immediate (R295). -/
def execTestImm (w : Width) (rm : Rm) (imm : BitVec w.bits) (s : State) : Result :=
  .next ((s.rmAfter w rm).logicFlags (s.rmRead w rm &&& imm))

/-! ## Shifts and rotates -/

/-- A shift or rotate by a count: the destination is read once and written once (R301 to R304). For a count of
0 it is read only, and nothing is drawn (D16, U1; log 12). -/
def State.shift (s : State) (op : ShiftOp) (w : Width) (rm : Rm) (count : Nat) : State :=
  if count = 0 then s.rmAfter w rm
  else
    let x := s.rmRead w rm
    let y := op.steps count x s.flags.CF
    (((s.rmAfter w rm).rmWrite w rm y.1).setFlags (op.flags s.flags count x y.1 y.2 s.draws)).drawn 2

/-- The count of the v bit: 1, or CL masked (R300). -/
def State.shiftCount (s : State) : ShiftCount → Nat
  | .one => 1
  | .cl => (s.cl &&& s.cfg.shiftCountMask).toNat

/-- An immediate count, masked (R458). -/
def State.immCount (s : State) (cnt : Byte) : Nat := (cnt &&& s.cfg.shiftCountMask).toNat

/-- ROL (R312). -/
def execRol (v : ShiftCount) (w : Width) (rm : Rm) (s : State) : Result :=
  .next (s.shift .rol w rm (s.shiftCount v))

/-- ROR (R313). -/
def execRor (v : ShiftCount) (w : Width) (rm : Rm) (s : State) : Result :=
  .next (s.shift .ror w rm (s.shiftCount v))

/-- RCL (R310). -/
def execRcl (v : ShiftCount) (w : Width) (rm : Rm) (s : State) : Result :=
  .next (s.shift .rcl w rm (s.shiftCount v))

/-- RCR (R311). -/
def execRcr (v : ShiftCount) (w : Width) (rm : Rm) (s : State) : Result :=
  .next (s.shift .rcr w rm (s.shiftCount v))

/-- SAL/SHL (R320). -/
def execShl (v : ShiftCount) (w : Width) (rm : Rm) (s : State) : Result :=
  .next (s.shift .shl w rm (s.shiftCount v))

/-- SHR (R322). -/
def execShr (v : ShiftCount) (w : Width) (rm : Rm) (s : State) : Result :=
  .next (s.shift .shr w rm (s.shiftCount v))

/-- SAR (R321). -/
def execSar (v : ShiftCount) (w : Width) (rm : Rm) (s : State) : Result :=
  .next (s.shift .sar w rm (s.shiftCount v))

/-- ROL by an immediate count (R458). -/
def execRolImm (w : Width) (rm : Rm) (cnt : Byte) (s : State) : Result :=
  .next (s.shift .rol w rm (s.immCount cnt))

/-- ROR by an immediate count (R458). -/
def execRorImm (w : Width) (rm : Rm) (cnt : Byte) (s : State) : Result :=
  .next (s.shift .ror w rm (s.immCount cnt))

/-- RCL by an immediate count (R458). -/
def execRclImm (w : Width) (rm : Rm) (cnt : Byte) (s : State) : Result :=
  .next (s.shift .rcl w rm (s.immCount cnt))

/-- RCR by an immediate count (R458). -/
def execRcrImm (w : Width) (rm : Rm) (cnt : Byte) (s : State) : Result :=
  .next (s.shift .rcr w rm (s.immCount cnt))

/-- SAL/SHL by an immediate count (R458). -/
def execShlImm (w : Width) (rm : Rm) (cnt : Byte) (s : State) : Result :=
  .next (s.shift .shl w rm (s.immCount cnt))

/-- SHR by an immediate count (R458). -/
def execShrImm (w : Width) (rm : Rm) (cnt : Byte) (s : State) : Result :=
  .next (s.shift .shr w rm (s.immCount cnt))

/-- SAR by an immediate count (R458). -/
def execSarImm (w : Width) (rm : Rm) (cnt : Byte) (s : State) : Result :=
  .next (s.shift .sar w rm (s.immCount cnt))

end Sys2Proof.Machine
end

