-- ==== Sys2Proof/Machine/Processor.lean ====
section
/-! DEFINITION. The processor control instructions and the LOCK and segment-override prefixes
(45_processor_control). -/

namespace Sys2Proof.Machine

/-- CLC (R401). -/
def execClc (s : State) : Result := .next (s.setFlags { s.flags with CF := false })

/-- STC (R405). -/
def execStc (s : State) : Result := .next (s.setFlags { s.flags with CF := true })

/-- CMC (R404). -/
def execCmc (s : State) : Result := .next (s.setFlags { s.flags with CF := !s.flags.CF })

/-- CLD (R402). -/
def execCld (s : State) : Result := .next (s.setFlags { s.flags with DF := false })

/-- STD (R406). -/
def execStd (s : State) : Result := .next (s.setFlags { s.flags with DF := true })

/-- CLI (R403). -/
def execCli (s : State) : Result := .next (s.setFlags { s.flags with IF := false })

/-- STI, which sets the interrupt shadow (R412). -/
def execSti (s : State) : Result := .next ((s.setFlags { s.flags with IF := true }).setInhibit true)

/-- NOP (R411). -/
def execNop (s : State) : Result := .next s

/-- HLT (R407). -/
def execHlt (s : State) : Result := .next (s.setRun .halted)

/-- WAIT is over: TEST_ready, or no coprocessor (R408). -/
def State.waitOver (s : State) : Bool := s.env.testReady || !s.cfg.has8087

/-- WAIT: past it when the coprocessor is ready, else the wait state with IP at the WAIT (R408; log 18). -/
def execWait (s : State) : Result :=
  .next (if s.waitOver then s else (s.setRun (.waiting s.regs.ip)).setIp s.ctl.startIp)

/-- ESC: a word of a memory operand is read and thrown away; nothing else happens (R409, D26; log 31). -/
def execEsc (_x1 _x2 : Bits3) (rm : Rm) (s : State) : Result := .next (s.escRead rm)

/-- LOCK; a second one before the same opcode is refused (R410, R126; log 23). -/
def execLock (s : State) : Result :=
  if s.ctl.pfx.lock then .refused .duplicatePrefix
  else .next (s.setPfx { s.ctl.pfx with lock := true })

/-- A segment-override prefix; a second one before the same opcode is refused (R413, R126). -/
def State.segPrefix (s : State) (sr : SReg) : Result :=
  if s.ctl.pfx.seg.isSome then .refused .duplicatePrefix
  else .next (s.setPfx { s.ctl.pfx with seg := some sr })

/-- ES: (R413). -/
def execSegEs (s : State) : Result := s.segPrefix .es

/-- CS: (R413). -/
def execSegCs (s : State) : Result := s.segPrefix .cs

/-- SS: (R413). -/
def execSegSs (s : State) : Result := s.segPrefix .ss

/-- DS: (R413). -/
def execSegDs (s : State) : Result := s.segPrefix .ds

end Sys2Proof.Machine
end

