-- ==== Sys2Proof/Machine/Dispatch.lean ====
section
/-! DEFINITION. One arm per constructor of Instr, each one call of its meaning. -/

namespace Sys2Proof.Machine

def exec (i : Instr) (s : State) : Host.Outcome State Fault Refusal :=
  match i with
  | .addRm d w rm r => Sys2Proof.Machine.execAddRm d w rm r s
  | .addAcc w imm => Sys2Proof.Machine.execAddAcc w imm s
  | .addImm w rm imm => Sys2Proof.Machine.execAddImm w rm imm s
  | .addImmS rm imm8 => Sys2Proof.Machine.execAddImmS rm imm8 s
  | .orRm d w rm r => Sys2Proof.Machine.execOrRm d w rm r s
  | .orAcc w imm => Sys2Proof.Machine.execOrAcc w imm s
  | .orImm w rm imm => Sys2Proof.Machine.execOrImm w rm imm s
  | .adcRm d w rm r => Sys2Proof.Machine.execAdcRm d w rm r s
  | .adcAcc w imm => Sys2Proof.Machine.execAdcAcc w imm s
  | .adcImm w rm imm => Sys2Proof.Machine.execAdcImm w rm imm s
  | .adcImmS rm imm8 => Sys2Proof.Machine.execAdcImmS rm imm8 s
  | .sbbRm d w rm r => Sys2Proof.Machine.execSbbRm d w rm r s
  | .sbbAcc w imm => Sys2Proof.Machine.execSbbAcc w imm s
  | .sbbImm w rm imm => Sys2Proof.Machine.execSbbImm w rm imm s
  | .sbbImmS rm imm8 => Sys2Proof.Machine.execSbbImmS rm imm8 s
  | .andRm d w rm r => Sys2Proof.Machine.execAndRm d w rm r s
  | .andAcc w imm => Sys2Proof.Machine.execAndAcc w imm s
  | .andImm w rm imm => Sys2Proof.Machine.execAndImm w rm imm s
  | .subRm d w rm r => Sys2Proof.Machine.execSubRm d w rm r s
  | .subAcc w imm => Sys2Proof.Machine.execSubAcc w imm s
  | .subImm w rm imm => Sys2Proof.Machine.execSubImm w rm imm s
  | .subImmS rm imm8 => Sys2Proof.Machine.execSubImmS rm imm8 s
  | .xorRm d w rm r => Sys2Proof.Machine.execXorRm d w rm r s
  | .xorAcc w imm => Sys2Proof.Machine.execXorAcc w imm s
  | .xorImm w rm imm => Sys2Proof.Machine.execXorImm w rm imm s
  | .cmpRm d w rm r => Sys2Proof.Machine.execCmpRm d w rm r s
  | .cmpAcc w imm => Sys2Proof.Machine.execCmpAcc w imm s
  | .cmpImm w rm imm => Sys2Proof.Machine.execCmpImm w rm imm s
  | .cmpImmS rm imm8 => Sys2Proof.Machine.execCmpImmS rm imm8 s
  | .pushEs => Sys2Proof.Machine.execPushEs s
  | .popEs => Sys2Proof.Machine.execPopEs s
  | .pushCs => Sys2Proof.Machine.execPushCs s
  | .pushSs => Sys2Proof.Machine.execPushSs s
  | .popSs => Sys2Proof.Machine.execPopSs s
  | .pushDs => Sys2Proof.Machine.execPushDs s
  | .popDs => Sys2Proof.Machine.execPopDs s
  | .segEs => Sys2Proof.Machine.execSegEs s
  | .segCs => Sys2Proof.Machine.execSegCs s
  | .segSs => Sys2Proof.Machine.execSegSs s
  | .segDs => Sys2Proof.Machine.execSegDs s
  | .daa => Sys2Proof.Machine.execDaa s
  | .das => Sys2Proof.Machine.execDas s
  | .aaa => Sys2Proof.Machine.execAaa s
  | .aas => Sys2Proof.Machine.execAas s
  | .incReg r => Sys2Proof.Machine.execIncReg r s
  | .decReg r => Sys2Proof.Machine.execDecReg r s
  | .pushReg r => Sys2Proof.Machine.execPushReg r s
  | .popReg r => Sys2Proof.Machine.execPopReg r s
  | .jo disp8 => Sys2Proof.Machine.execJo disp8 s
  | .jno disp8 => Sys2Proof.Machine.execJno disp8 s
  | .jb disp8 => Sys2Proof.Machine.execJb disp8 s
  | .jae disp8 => Sys2Proof.Machine.execJae disp8 s
  | .je disp8 => Sys2Proof.Machine.execJe disp8 s
  | .jne disp8 => Sys2Proof.Machine.execJne disp8 s
  | .jbe disp8 => Sys2Proof.Machine.execJbe disp8 s
  | .ja disp8 => Sys2Proof.Machine.execJa disp8 s
  | .js disp8 => Sys2Proof.Machine.execJs disp8 s
  | .jns disp8 => Sys2Proof.Machine.execJns disp8 s
  | .jp disp8 => Sys2Proof.Machine.execJp disp8 s
  | .jnp disp8 => Sys2Proof.Machine.execJnp disp8 s
  | .jl disp8 => Sys2Proof.Machine.execJl disp8 s
  | .jge disp8 => Sys2Proof.Machine.execJge disp8 s
  | .jle disp8 => Sys2Proof.Machine.execJle disp8 s
  | .jg disp8 => Sys2Proof.Machine.execJg disp8 s
  | .testRm w rm r => Sys2Proof.Machine.execTestRm w rm r s
  | .xchgRm w rm r => Sys2Proof.Machine.execXchgRm w rm r s
  | .movRm d w rm r => Sys2Proof.Machine.execMovRm d w rm r s
  | .movRmSeg rm sr => Sys2Proof.Machine.execMovRmSeg rm sr s
  | .lea r rm => Sys2Proof.Machine.execLea r rm s
  | .movSegRm sr rm => Sys2Proof.Machine.execMovSegRm sr rm s
  | .popRm rm => Sys2Proof.Machine.execPopRm rm s
  | .nop => Sys2Proof.Machine.execNop s
  | .xchgAcc r => Sys2Proof.Machine.execXchgAcc r s
  | .cbw => Sys2Proof.Machine.execCbw s
  | .cwd => Sys2Proof.Machine.execCwd s
  | .callFar off sg => Sys2Proof.Machine.execCallFar off sg s
  | .wait => Sys2Proof.Machine.execWait s
  | .pushf => Sys2Proof.Machine.execPushf s
  | .popf => Sys2Proof.Machine.execPopf s
  | .sahf => Sys2Proof.Machine.execSahf s
  | .lahf => Sys2Proof.Machine.execLahf s
  | .movAccMem w addr => Sys2Proof.Machine.execMovAccMem w addr s
  | .movMemAcc w addr => Sys2Proof.Machine.execMovMemAcc w addr s
  | .movs w => Sys2Proof.Machine.execMovs w s
  | .cmps w => Sys2Proof.Machine.execCmps w s
  | .stos w => Sys2Proof.Machine.execStos w s
  | .lods w => Sys2Proof.Machine.execLods w s
  | .scas w => Sys2Proof.Machine.execScas w s
  | .testAcc w imm => Sys2Proof.Machine.execTestAcc w imm s
  | .movRegImm w r imm => Sys2Proof.Machine.execMovRegImm w r imm s
  | .retPop pop => Sys2Proof.Machine.execRetPop pop s
  | .ret => Sys2Proof.Machine.execRet s
  | .les r rm => Sys2Proof.Machine.execLes r rm s
  | .lds r rm => Sys2Proof.Machine.execLds r rm s
  | .movRmImm w rm imm => Sys2Proof.Machine.execMovRmImm w rm imm s
  | .retFarPop pop => Sys2Proof.Machine.execRetFarPop pop s
  | .retFar => Sys2Proof.Machine.execRetFar s
  | .int3 => Sys2Proof.Machine.execInt3 s
  | .intN t => Sys2Proof.Machine.execIntN t s
  | .into => Sys2Proof.Machine.execInto s
  | .iret => Sys2Proof.Machine.execIret s
  | .rol v w rm => Sys2Proof.Machine.execRol v w rm s
  | .ror v w rm => Sys2Proof.Machine.execRor v w rm s
  | .rcl v w rm => Sys2Proof.Machine.execRcl v w rm s
  | .rcr v w rm => Sys2Proof.Machine.execRcr v w rm s
  | .shl v w rm => Sys2Proof.Machine.execShl v w rm s
  | .shr v w rm => Sys2Proof.Machine.execShr v w rm s
  | .sar v w rm => Sys2Proof.Machine.execSar v w rm s
  | .aam => Sys2Proof.Machine.execAam s
  | .aad => Sys2Proof.Machine.execAad s
  | .xlat => Sys2Proof.Machine.execXlat s
  | .esc x1 x2 rm => Sys2Proof.Machine.execEsc x1 x2 rm s
  | .loopne disp8 => Sys2Proof.Machine.execLoopne disp8 s
  | .loope disp8 => Sys2Proof.Machine.execLoope disp8 s
  | .loop disp8 => Sys2Proof.Machine.execLoop disp8 s
  | .jcxz disp8 => Sys2Proof.Machine.execJcxz disp8 s
  | .inFixed w port => Sys2Proof.Machine.execInFixed w port s
  | .outFixed w port => Sys2Proof.Machine.execOutFixed w port s
  | .callNear disp16 => Sys2Proof.Machine.execCallNear disp16 s
  | .jmpNear disp16 => Sys2Proof.Machine.execJmpNear disp16 s
  | .jmpFar off sg => Sys2Proof.Machine.execJmpFar off sg s
  | .jmpShort disp8 => Sys2Proof.Machine.execJmpShort disp8 s
  | .inDx w => Sys2Proof.Machine.execInDx w s
  | .outDx w => Sys2Proof.Machine.execOutDx w s
  | .lock => Sys2Proof.Machine.execLock s
  | .repne => Sys2Proof.Machine.execRepne s
  | .rep => Sys2Proof.Machine.execRep s
  | .hlt => Sys2Proof.Machine.execHlt s
  | .cmc => Sys2Proof.Machine.execCmc s
  | .testImm w rm imm => Sys2Proof.Machine.execTestImm w rm imm s
  | .not w rm => Sys2Proof.Machine.execNot w rm s
  | .neg w rm => Sys2Proof.Machine.execNeg w rm s
  | .mul w rm => Sys2Proof.Machine.execMul w rm s
  | .imul w rm => Sys2Proof.Machine.execImul w rm s
  | .div w rm => Sys2Proof.Machine.execDiv w rm s
  | .idiv w rm => Sys2Proof.Machine.execIdiv w rm s
  | .clc => Sys2Proof.Machine.execClc s
  | .stc => Sys2Proof.Machine.execStc s
  | .cli => Sys2Proof.Machine.execCli s
  | .sti => Sys2Proof.Machine.execSti s
  | .cld => Sys2Proof.Machine.execCld s
  | .std => Sys2Proof.Machine.execStd s
  | .incRm w rm => Sys2Proof.Machine.execIncRm w rm s
  | .decRm w rm => Sys2Proof.Machine.execDecRm w rm s
  | .callInd rm => Sys2Proof.Machine.execCallInd rm s
  | .callFarInd rm => Sys2Proof.Machine.execCallFarInd rm s
  | .jmpInd rm => Sys2Proof.Machine.execJmpInd rm s
  | .jmpFarInd rm => Sys2Proof.Machine.execJmpFarInd rm s
  | .pushRm rm => Sys2Proof.Machine.execPushRm rm s
  | .pusha => Sys2Proof.Machine.execPusha s
  | .popa => Sys2Proof.Machine.execPopa s
  | .pushImm16 imm16 => Sys2Proof.Machine.execPushImm16 imm16 s
  | .pushImm8 imm8 => Sys2Proof.Machine.execPushImm8 imm8 s
  | .imul3 r rm imm16 => Sys2Proof.Machine.execImul3 r rm imm16 s
  | .imul3S r rm imm8 => Sys2Proof.Machine.execImul3S r rm imm8 s
  | .ins w => Sys2Proof.Machine.execIns w s
  | .outs w => Sys2Proof.Machine.execOuts w s
  | .rolImm w rm cnt => Sys2Proof.Machine.execRolImm w rm cnt s
  | .rorImm w rm cnt => Sys2Proof.Machine.execRorImm w rm cnt s
  | .rclImm w rm cnt => Sys2Proof.Machine.execRclImm w rm cnt s
  | .rcrImm w rm cnt => Sys2Proof.Machine.execRcrImm w rm cnt s
  | .shlImm w rm cnt => Sys2Proof.Machine.execShlImm w rm cnt s
  | .shrImm w rm cnt => Sys2Proof.Machine.execShrImm w rm cnt s
  | .sarImm w rm cnt => Sys2Proof.Machine.execSarImm w rm cnt s
  | .bsf r rm => Sys2Proof.Machine.execBsf r rm s
  | .bsr r rm => Sys2Proof.Machine.execBsr r rm s
  | .bt rm r => Sys2Proof.Machine.execBt rm r s
  | .bts rm r => Sys2Proof.Machine.execBts rm r s
  | .btr rm r => Sys2Proof.Machine.execBtr rm r s
  | .btc rm r => Sys2Proof.Machine.execBtc rm r s
  | .btImm rm imm8 => Sys2Proof.Machine.execBtImm rm imm8 s
  | .btsImm rm imm8 => Sys2Proof.Machine.execBtsImm rm imm8 s
  | .btrImm rm imm8 => Sys2Proof.Machine.execBtrImm rm imm8 s
  | .btcImm rm imm8 => Sys2Proof.Machine.execBtcImm rm imm8 s
  | .movsx r rm => Sys2Proof.Machine.execMovsx r rm s
  | .movzx r rm => Sys2Proof.Machine.execMovzx r rm s
  | .seto rm => Sys2Proof.Machine.execSeto rm s
  | .setno rm => Sys2Proof.Machine.execSetno rm s
  | .setb rm => Sys2Proof.Machine.execSetb rm s
  | .setae rm => Sys2Proof.Machine.execSetae rm s
  | .sete rm => Sys2Proof.Machine.execSete rm s
  | .setne rm => Sys2Proof.Machine.execSetne rm s
  | .setbe rm => Sys2Proof.Machine.execSetbe rm s
  | .seta rm => Sys2Proof.Machine.execSeta rm s
  | .sets rm => Sys2Proof.Machine.execSets rm s
  | .setns rm => Sys2Proof.Machine.execSetns rm s
  | .setp rm => Sys2Proof.Machine.execSetp rm s
  | .setnp rm => Sys2Proof.Machine.execSetnp rm s
  | .setl rm => Sys2Proof.Machine.execSetl rm s
  | .setge rm => Sys2Proof.Machine.execSetge rm s
  | .setle rm => Sys2Proof.Machine.execSetle rm s
  | .setg rm => Sys2Proof.Machine.execSetg rm s
  | .shldImm rm r cnt => Sys2Proof.Machine.execShldImm rm r cnt s
  | .shldCl rm r => Sys2Proof.Machine.execShldCl rm r s
  | .shrdImm rm r cnt => Sys2Proof.Machine.execShrdImm rm r cnt s
  | .shrdCl rm r => Sys2Proof.Machine.execShrdCl rm r s
  | .faddM32 rm => Sys2Proof.Machine.execFaddM32 rm s
  | .faddM64 rm => Sys2Proof.Machine.execFaddM64 rm s
  | .faddStSti sti => Sys2Proof.Machine.execFaddStSti sti s
  | .faddStiSt sti => Sys2Proof.Machine.execFaddStiSt sti s
  | .faddP => Sys2Proof.Machine.execFaddP s
  | .fmulM32 rm => Sys2Proof.Machine.execFmulM32 rm s
  | .fmulM64 rm => Sys2Proof.Machine.execFmulM64 rm s
  | .fmulStSti sti => Sys2Proof.Machine.execFmulStSti sti s
  | .fmulStiSt sti => Sys2Proof.Machine.execFmulStiSt sti s
  | .fmulP => Sys2Proof.Machine.execFmulP s
  | .fsubM32 rm => Sys2Proof.Machine.execFsubM32 rm s
  | .fsubM64 rm => Sys2Proof.Machine.execFsubM64 rm s
  | .fsubStSti sti => Sys2Proof.Machine.execFsubStSti sti s
  | .fsubStiSt sti => Sys2Proof.Machine.execFsubStiSt sti s
  | .fsubP => Sys2Proof.Machine.execFsubP s
  | .fdivM32 rm => Sys2Proof.Machine.execFdivM32 rm s
  | .fdivM64 rm => Sys2Proof.Machine.execFdivM64 rm s
  | .fdivStSti sti => Sys2Proof.Machine.execFdivStSti sti s
  | .fdivStiSt sti => Sys2Proof.Machine.execFdivStiSt sti s
  | .fdivP => Sys2Proof.Machine.execFdivP s
  | .fiaddM16 rm => Sys2Proof.Machine.execFiaddM16 rm s
  | .fiaddM32 rm => Sys2Proof.Machine.execFiaddM32 rm s
  | .fimulM16 rm => Sys2Proof.Machine.execFimulM16 rm s
  | .fimulM32 rm => Sys2Proof.Machine.execFimulM32 rm s
  | .fisubM16 rm => Sys2Proof.Machine.execFisubM16 rm s
  | .fisubM32 rm => Sys2Proof.Machine.execFisubM32 rm s
  | .fidivM16 rm => Sys2Proof.Machine.execFidivM16 rm s
  | .fidivM32 rm => Sys2Proof.Machine.execFidivM32 rm s
  | .fildM16 rm => Sys2Proof.Machine.execFildM16 rm s
  | .fildM32 rm => Sys2Proof.Machine.execFildM32 rm s
  | .fildM64 rm => Sys2Proof.Machine.execFildM64 rm s
  | .fistM16 rm => Sys2Proof.Machine.execFistM16 rm s
  | .fistM32 rm => Sys2Proof.Machine.execFistM32 rm s
  | .fistpM16 rm => Sys2Proof.Machine.execFistpM16 rm s
  | .fistpM32 rm => Sys2Proof.Machine.execFistpM32 rm s
  | .fistpM64 rm => Sys2Proof.Machine.execFistpM64 rm s
  | .fldM32 rm => Sys2Proof.Machine.execFldM32 rm s
  | .fldM64 rm => Sys2Proof.Machine.execFldM64 rm s
  | .fldM80 rm => Sys2Proof.Machine.execFldM80 rm s
  | .fldSti sti => Sys2Proof.Machine.execFldSti sti s
  | .fstM32 rm => Sys2Proof.Machine.execFstM32 rm s
  | .fstM64 rm => Sys2Proof.Machine.execFstM64 rm s
  | .fstSti sti => Sys2Proof.Machine.execFstSti sti s
  | .fstpM32 rm => Sys2Proof.Machine.execFstpM32 rm s
  | .fstpM64 rm => Sys2Proof.Machine.execFstpM64 rm s
  | .fstpM80 rm => Sys2Proof.Machine.execFstpM80 rm s
  | .fstpSti sti => Sys2Proof.Machine.execFstpSti sti s
  | .fbld rm => Sys2Proof.Machine.execFbld rm s
  | .fbstp rm => Sys2Proof.Machine.execFbstp rm s

end Sys2Proof.Machine
end

