-- ==== Sys2Proof/Machine/Run.lean ====
section
/-! DEFINITION. What a step does around the meaning of an instruction: the environment's inputs, reset,
recognition of interrupts, fetch, prefixes and the single-step trap (R510 to R515, R540, R565). -/

namespace Sys2Proof.Machine

/-! ## The environment -/

/-- `INTR_pending` after an input. -/
def IntrInput.pending (now : Bool) : IntrInput → Bool
  | .keep => now
  | .request _ => true
  | .withdraw => false

/-- The type supplied, after an input. -/
def IntrInput.type (now : Byte) : IntrInput → Byte
  | .keep => now
  | .request t => t
  | .withdraw => now

/-- The inputs other than reset and the stores (R47, R408). -/
def Env.receive (e : Env) (i : Input) : Env :=
  { e with
    nmiPending := e.nmiPending || i.nmi
    intrPending := i.intr.pending e.intrPending
    intrType := i.intr.type e.intrType
    testReady := i.testReady.getD e.testReady }

/-- The next input of the environment takes effect (log 15): the stores before the step happen, or wait while
a locked repetition holds the bus (R341, DESIGN CHOICE log 35), and the step has its bus events. Without
an input nothing changes. -/
def State.deliver (s : State) : State :=
  match s.env.inputs with
  | [] => s
  | i :: rest =>
    let u := s.agentStores i.writes
    { u with env := { u.env.receive i with inputs := rest, bus := i.bus } }

/-- Whether the next input of the environment is a reset (R540). -/
def State.resetRequested (s : State) : Bool :=
  match s.env.inputs with
  | [] => false
  | i :: _ => i.reset

/-- The reset event (R540, R541): the values of the parameter RESET in place, the general registers free (U4;
log 25); memory, the I/O record, the environment's other inputs and the configuration stay. -/
def State.resetEvent (s : State) : State :=
  { s with
    regs := s.cfg.reset.regs { s.regs with
      ax := Config.freeWord s.draws, cx := Config.freeWord (s.draws + 1)
      dx := Config.freeWord (s.draws + 2), bx := Config.freeWord (s.draws + 3)
      sp := Config.freeWord (s.draws + 4), bp := Config.freeWord (s.draws + 5)
      si := Config.freeWord (s.draws + 6), di := Config.freeWord (s.draws + 7) }
    flags := s.cfg.reset.flags
    ctl := s.cfg.reset.control
    env := { s.env with nmiPending := s.cfg.reset.nmiPending, intrPending := s.cfg.reset.intrPending }
    fpu := List.replicate s.cfg.stDepth s.cfg.reset.st
    draws := s.draws + 8 }

/-- The bus events that no access of the step was left for; a reset abandons what the instruction did since it
came (R540). -/
def State.drain (s : State) : List BusEvent → State
  | [] => s
  | .stores cells :: rest => (s.agentStores cells).drain rest
  | .reset :: rest => s.resetEvent.drain rest

/-- The end of a step: the bus events left over happen, and where the bus is free the stores that waited. -/
def State.settle (s : State) : State := ({ s with env := { s.env with bus := [] } }.drain s.env.bus).agentStores []

/-- `settle` of a next state. -/
def settled : Result → Result
  | .next t => .next t.settle
  | .fault f => .fault f
  | .refused r => .refused r

/-! ## Recognition of interrupts -/

/-- Whether the instruction is still under way: a repetition between iterations, or a WAIT that waits. -/
def State.underWay (t : State) : Bool :=
  t.ctl.resume.isSome ||
    match t.ctl.run with
    | .waiting _ => true
    | .running => false
    | .halted => false

/-- Interrupts may be recognised here: no prefix stands before an opcode that is still to come (R510). -/
def State.atBoundary (s : State) : Bool := decide (s.ctl.pfx = Prefixes.empty) || s.underWay

/-- A suspended repetition and its prefixes are given up, with its bus lock; IP is at the first prefix (R340). -/
def State.abandon (s : State) : State :=
  { s with ctl := { s.ctl with pfx := Prefixes.empty, resume := none, busLock := false } }

/-- The interrupt taken at this boundary, if one is recognised (R510, R511). A repetition that is
suspended with TF = 1 takes its single-step trap first (R512; log 19). -/
def State.recognise (s : State) : Option State :=
  if s.ctl.inhibit || !s.atBoundary then none
  else if s.env.nmiPending || (s.env.intrPending && s.flags.IF) then
    if s.ctl.resume.isSome && s.flags.TF then some (s.abandon.interrupt 1 s.regs.ip)
    else if s.env.nmiPending then
      some ({ s.abandon with env := { s.env with nmiPending := false } }.interrupt 2 s.regs.ip)
    else
      some ({ s.abandon with env := { s.env with intrPending := false } }.interrupt s.env.intrType s.regs.ip)
  else none

/-! ## Fetch -/

/-- The byte fetched from an address: the byte memory holds, or one from before a store that prefetch did not
see, as the draws decide (R95, U10). The byte memory holds may be another agent's, stored over the processor's:
then the processor's is not among them (DESIGN CHOICE, log 5). -/
def staleByte (addr : Nat) (current : Byte) : Nat → List Host.Cell → Byte
  | _, [] => current
  | draw, (a, old) :: rest =>
    if a = addr then if Config.freeBit draw then old else staleByte addr current (draw + 1) rest
    else staleByte addr current (draw + 1) rest

/-- Byte k of the instruction at CS:IP, fetched by access k; the offset wraps in the segment (R25, R95). -/
def State.fetchByte (s : State) (k : Nat) : Byte :=
  let addr := phys s.cfg s.regs.cs (s.regs.ip + BitVec.ofNat 16 k)
  staleByte addr (Memory.read (s.accesses (k + 1)).mem addr) s.draws s.ctl.stale

/-- The bytes at CS:IP, as many as the longest instruction has, or as come before the reset does (R540). The
decoder takes those the instruction has. -/
def State.fetchBytes (s : State) : List Byte :=
  ((List.range maxLength).takeWhile fun k => !(s.accesses k).resetReached).map s.fetchByte

/-- The instruction's `n` bytes have been fetched: IP <- IPnext, and `IP_at_start` where the instruction has no
prefix before it (R24). -/
def State.advance (s : State) (n : Nat) : State :=
  { s.accesses n with
    regs := { s.regs with ip := s.regs.ip + BitVec.ofNat 16 n }
    ctl := { s.ctl with
      startIp := if s.ctl.pfx = Prefixes.empty then s.regs.ip else s.ctl.startIp }
    draws := s.draws + s.ctl.stale.length }

/-! ## Around the meaning -/

/-- LOCK, REP, REPNE and the segment overrides (R126). -/
def isPrefix : Instr → Bool
  | .lock | .rep | .repne | .segEs | .segCs | .segSs | .segDs => true
  | _ => false

/-- The instructions a repeat prefix may precede (R126). -/
def isString : Instr → Bool
  | .movs _ | .cmps _ | .scas _ | .lods _ | .stos _ | .ins _ | .outs _ => true
  | _ => false

/-- The instruction has completed: the prefix state is discarded (R49), the bus is free (R50), and the
single-step trap follows where the instruction began with TF = 1 and sets no interrupt shadow itself (R512;
the words of D40 can be read otherwise: DEDUCED, log 39). -/
def State.complete (t : State) (tf0 : Bool) : State :=
  let u := (t.setPfx Prefixes.empty).setBusLock false
  if tf0 && !u.ctl.inhibit then u.interrupt 1 u.regs.ip else u

/-- After the meaning of an instruction that began with TF as `tf0`, and in an interrupt shadow where `shadow`
holds. Whether that shadow is over before the instruction, as the pseudocode of R510 has it, or after it, as R48
says, is left free, `Config.shadowStands` (DESIGN CHOICE, log 37); where it stands, it stands between a prefix
and its opcode and between the iterations of a repetition. It is over in either case when the instruction has
completed or waits (R408, R510). A repetition under way keeps the bus locked between its iterations (R341;
DESIGN CHOICE, since R92 and GK41 leave it open: log 35). -/
def State.finish (i : Instr) (tf0 shadow : Bool) (t : State) : State :=
  let stands := shadow && Config.shadowStands
  if isPrefix i then t.setInhibit stands
  else if t.underWay then
    (t.setBusLock (t.ctl.busLock && t.ctl.resume.isSome)).setInhibit (stands && t.ctl.resume.isSome)
  else t.complete tf0

/-- The meaning of an instruction, and what follows it. The bus is locked under LOCK (R50, R410). A repeat
prefix before an instruction that is no string instruction is refused (R126). A reset that came while the
instruction was fetched leaves nothing to do (R540). The interrupt shadow in which the instruction runs is put
aside while its meaning runs, so that `inhibit_once` is then what the instruction itself sets (R48, R515). -/
def State.perform (s : State) (i : Instr) : Result :=
  if s.resetReached then .next s
  else if s.ctl.pfx.rep.isSome && !isPrefix i && !isString i then .refused .repBeforeNonString
  else
    match exec i ((s.setBusLock (s.ctl.pfx.lock && !isPrefix i)).setInhibit false) with
    | .next t => .next (State.finish i s.flags.TF s.ctl.inhibit t)
    | .fault f => .fault f
    | .refused r => .refused r

/-- One instruction of a running processor: the repetition under way goes on, or the bytes at CS:IP are
decoded. Bytes that end inside the instruction are those before a reset (R540); other bytes without an
instruction are refused where they have been fetched before a reset (R150; log 15). The draws of the fetch are
made in either case (R9, R95). -/
def State.runInstr (s : State) : Result :=
  match s.ctl.resume with
  | some r =>
    ({ s with regs := { s.regs with ip := r.ipNext }, ctl := { s.ctl with resume := none } }).perform r.instr
  | none =>
    match decode s.cfg s.fetchBytes with
    | .ok (i, rest) => (s.advance (s.fetchBytes.length - rest.length)).perform i
    | .error .truncated => ((s.accesses maxLength).drawn s.ctl.stale.length).refuse (.encoding .truncated)
    | .error e => .refused (.encoding e)

/-- The wait state: WAIT completes when it is over (R408). -/
def State.waitStep (s : State) (ipNext : Word) : Result :=
  if s.waitOver then .next (((s.setRun .running).setIp ipNext).complete s.flags.TF) else .next s

/-- A step without an interrupt: halted and waiting processors stay (R407, R408; log 29), in no interrupt
shadow (R510; log 37). -/
def State.advanceStep (s : State) : Result :=
  match s.ctl.run with
  | .running => s.runInstr
  | .halted => .next (s.setInhibit false)
  | .waiting ipNext => (s.setInhibit false).waitStep ipNext

/-- What a step does with the input it has received: a reset, a recognised request, or an instruction. A
request comes before the end of a wait state: where TEST_ready holds and a request is recognisable at the
same moment, the request is taken, with the saved IP at the WAIT. R408, R511 and R535 give no order
(DESIGN CHOICE, log 18). A reset and the entry of a recognised request are a step of their own; the entry that
an instruction or its single-step trap makes is part of the step of that instruction (R555 leaves it to the
model: DESIGN CHOICE, log 40). -/
def State.respond (s : State) : Result :=
  if s.resetRequested then .next s.deliver.resetEvent
  else
    match s.deliver.recognise with
    | some t => .next t
    | none => s.deliver.advanceStep

/-- One step. -/
def State.machineStep (s : State) : Result := settled s.respond

/-! ## Placing an instruction -/

/-- Bytes placed at consecutive offsets of a segment from outside the machine. -/
def State.writeBytes (s : State) (seg off : Word) : List Byte → State
  | [] => s
  | b :: bs => (s.storeCell (phys s.cfg seg off, b)).writeBytes seg (off + 1) bs

end Sys2Proof.Machine
end

