-- ==== Sys2Proof/Machine/Step.lean ====
section
/-! DEFINITION. The step of the machine, and an instruction placed where it fetches. -/

namespace Sys2Proof.Machine

/-- One step (R555, log 6, log 8). -/
def step (s : State) : Host.Outcome State Fault Refusal := s.machineStep

/-- The instruction with these bits stored where the step fetches its next one, at CS:IP, with nothing older
prefetched (log 27). -/
def State.withFetchWord (s : State) (nbits w : Nat) : State :=
  (s.writeBytes s.regs.cs s.regs.ip (tableBytes nbits w)).discardPrefetch

end Sys2Proof.Machine
end

