-- ==== Sys2Proof/Safety.lean ====
section
/-! DEFINITION. What counts as a sound state, and the terms the statements use: the effect of an instruction
as the parts of the state it changes, its flags as facts about numbers, the bytes it stores to. -/

namespace Sys2Proof.Machine

/-! ## Sound states -/

/-- Memory is canonical, and physical addresses are at least 20 bits wide (R71, R72). -/
def State.memOk (s : State) : Bool := Memory.wf s.mem && decide (20 ≤ s.cfg.physBits)

/-- A repetition under way is one of a string instruction, under its repeat prefix, in a running processor
(R339, R340); between two instructions the bus is not locked (R50). -/
def Control.repeatOk (c : Control) : Bool :=
  match c.resume with
  | none => !c.busLock
  | some r => isString r.instr && c.pfx.rep.isSome && decide (c.run = .running)

/-- Between two steps no bus event is left over, and no store of another agent waits for a bus that is free
(R92; log 23, log 24). -/
def State.busOk (s : State) : Bool :=
  decide (s.env.bus = []) && (s.ctl.busLock || decide (s.env.held = []))

/-- The invariant of the machine: canonical memory inside the address space (R71), an 8087 stack of ST_DEPTH
places (R55), a repetition under way as it should be, nothing left over on the bus. -/
def State.inv (s : State) : Bool :=
  s.memOk && s.mem.all (fun c => decide (c.1 < 2 ^ s.cfg.physBits)) &&
    decide (s.fpu.length = s.cfg.stDepth) && s.ctl.repeatOk && s.busOk

/-- Nothing comes from outside between the accesses of the instruction: no store of another agent, no reset
(R90, R540). So it is between steps, and in a step whose input has no bus events. -/
abbrev State.still (s : State) : Prop := s.env.bus = []

/-- A safe outcome: a next state. The machine has no fault; what it refuses is R150's and R420's list. -/
def safe (r : Result) : Prop := ∃ t, r = .next t

/-! ## Effects -/

/-- The physical addresses of `n` bytes at seg:off; the offset wraps in the segment (R75). -/
def bytesAt (c : Config) (seg off : Word) (n : Nat) : List Nat :=
  (List.range n).map fun k => phys c seg (off + BitVec.ofNat 16 k)

/-- Every byte of memory outside the listed addresses reads in `t` as in `s`. -/
def SameBytes (s t : State) (stored : List Nat) : Prop :=
  ∀ a, a ∉ stored → Memory.read t.mem a = Memory.read s.mem a

/-- What prefetch may hold in `t` is what it may hold in `s`, and before that bytes at the listed addresses,
within the window of `s` (R95). -/
def StaleFrom (s t : State) (stored : List Nat) : Prop :=
  ∃ l, t.ctl.stale = l ++ s.ctl.stale ∧ ∀ c ∈ l, c.1 ∈ stored ∧ c.1 ∈ s.window

/-- The outcome is a next state `t` that has the registers `g` and the flags `f`, and for the rest is `s`,
but for memory at the listed addresses, with what prefetch may hold of it, and the count of free values. -/
def Effect (r : Result) (s : State) (g : Regs) (f : Flags) (stored : List Nat) (t : State) : Prop :=
  r = .next t ∧
    t = { s with
      regs := g, flags := f, draws := t.draws, mem := t.mem, ctl := { s.ctl with stale := t.ctl.stale } } ∧
    SameBytes s t stored ∧ StaleFrom s t stored

/-- `i` changes the registers and flags only. -/
def Changes (i : Instr) (s : State) (g : Regs) (f : Flags) : Prop :=
  ∃ t, Effect (exec i s) s g f [] t

/-- `i` is a control transfer that is taken: it changes the registers and flags, and what was fetched ahead is
discarded (R552). -/
def Jumps (i : Instr) (s : State) (g : Regs) (f : Flags) : Prop :=
  ∃ t, Effect (exec i s) { s with ctl := { s.ctl with stale := [] } } g f [] t

/-- The registers after a write to a place. -/
def placeRegs (g : Regs) (w : Width) (p : Place) (v : BitVec w.bits) : Regs :=
  match p with
  | .reg n => g.set n w v
  | .mem _ _ => g

/-- The bytes a write to a place stores to. -/
def placeBytes (c : Config) (w : Width) : Place → List Nat
  | .reg _ => []
  | .mem seg off => bytesAt c seg off w.bytes.toNat

/-- `i` writes `v` to the place `p` and sets the flags to `f`; nothing else changes. -/
def Writes (i : Instr) (s : State) (w : Width) (p : Place) (v : BitVec w.bits) (f : Flags) : Prop :=
  ∃ t, Effect (exec i s) s (placeRegs s.regs w p v) f (placeBytes s.cfg w p) t ∧ t.readPlace w p = v

/-- `i` pushes the word `v`, and leaves the registers as `g` beside SP (R200). -/
def Pushes (i : Instr) (s : State) (g : Regs) (v : Word) : Prop :=
  ∃ t, Effect (exec i s) s { g with sp := s.regs.sp - 2 } s.flags
      (bytesAt s.cfg s.regs.ss (s.regs.sp - 2) 2) t ∧
    t.read16 s.regs.ss (s.regs.sp - 2) = v

/-- `i` is a call: it pushes the word `v`, leaves the registers as `g` beside SP, and discards what was fetched
ahead, the bytes it pushed among it (R200, R552). -/
def Calls (i : Instr) (s : State) (g : Regs) (v : Word) : Prop :=
  ∃ t, Effect (exec i s) { s with ctl := { s.ctl with stale := [] } } { g with sp := s.regs.sp - 2 } s.flags
      (bytesAt s.cfg s.regs.ss (s.regs.sp - 2) 2) t ∧
    t.read16 s.regs.ss (s.regs.sp - 2) = v ∧ t.ctl.stale = []

/-- `i` is a far call: it pushes the word `v`, then the word `u`, leaves the registers as `g` beside SP, and
discards what was fetched ahead, the bytes it pushed among it (R200, R354, R552). -/
def CallsFar (i : Instr) (s : State) (g : Regs) (v u : Word) : Prop :=
  ∃ t, Effect (exec i s) { s with ctl := { s.ctl with stale := [] } } { g with sp := s.regs.sp - 4 } s.flags
      (bytesAt s.cfg s.regs.ss (s.regs.sp - 4) 4) t ∧
    t.read16 s.regs.ss (s.regs.sp - 2) = v ∧ t.read16 s.regs.ss (s.regs.sp - 4) = u ∧ t.ctl.stale = []

/-! ## Flags as facts about numbers -/

/-- The number of ones among the low eight bits. -/
def onesLow {n : Nat} (v : BitVec n) : Nat := ((List.range 8).filter fun k => v.getLsbD k).length

/-- SF, ZF and PF of a result (R241). -/
def resultFlags {n : Nat} (f : Flags) (v : BitVec n) : Flags :=
  { f with SF := decide (v.toInt < 0), ZF := decide (v.toNat = 0), PF := decide (onesLow v % 2 = 0) }

/-- The sum of two operands and a carry. -/
def sumOf {n : Nat} (a b : BitVec n) (c : Nat) : BitVec n := BitVec.ofNat n (a.toNat + b.toNat + c)

/-- The flags of a sum: CF the unsigned carry, AF the carry out of bit 3, OF that the signed sum does not
fit (R30, R32, R35, R242). -/
def sumFlags {n : Nat} (f : Flags) (a b : BitVec n) (c : Nat) : Flags :=
  { resultFlags f (sumOf a b c) with
    CF := decide (2 ^ n ≤ a.toNat + b.toNat + c)
    AF := decide (16 ≤ a.toNat % 16 + b.toNat % 16 + c)
    OF := decide ((sumOf a b c).toInt ≠ a.toInt + b.toInt + c) }

/-- The difference of two operands and a borrow. -/
def differenceOf {n : Nat} (a b : BitVec n) (c : Nat) : BitVec n :=
  BitVec.ofInt n ((a.toNat : Int) - b.toNat - c)

/-- The flags of a difference: CF the unsigned borrow, AF the borrow into bit 3, OF that the signed
difference does not fit (R30, R32, R35, R243). -/
def differenceFlags {n : Nat} (f : Flags) (a b : BitVec n) (c : Nat) : Flags :=
  { resultFlags f (differenceOf a b c) with
    CF := decide (a.toNat < b.toNat + c)
    AF := decide (a.toNat % 16 < b.toNat % 16 + c)
    OF := decide ((differenceOf a b c).toInt ≠ a.toInt - b.toInt - c) }

/-- The flags of a logical result: CF and OF cleared, AF some value (R290). -/
def logicFlagsOf {n : Nat} (f : Flags) (v : BitVec n) (af : Bool) : Flags :=
  { resultFlags f v with CF := false, OF := false, AF := af }

/-- The six status flags hold any values (R256, R257, R482). -/
def anyStatus (f : Flags) (o s z a p c : Bool) : Flags :=
  { f with OF := o, SF := s, ZF := z, AF := a, PF := p, CF := c }

/-! ## Forms of instructions -/

/-- A word immediate, for the forms that exist at word width only. -/
abbrev wordOf (v : Word) : BitVec Width.word.bits := v

/-- An element's step of SI or DI: up when DF = 0, down when DF = 1 (R330). -/
def stepped (s : State) (w : Width) (x : Word) : Word :=
  BitVec.ofInt 16 (if s.flags.DF then (x.toNat : Int) - w.bytes.toNat else x.toNat + w.bytes.toNat)

/-- The J(condition) instructions with the condition of R143 each tests, as a formula of the flags. -/
def jccTable (f : Flags) (disp : Byte) : List (Instr × Prop) :=
  [(.jo disp, f.OF = true), (.jno disp, f.OF = false), (.jb disp, f.CF = true), (.jae disp, f.CF = false),
   (.je disp, f.ZF = true), (.jne disp, f.ZF = false), (.jbe disp, f.CF = true ∨ f.ZF = true),
   (.ja disp, f.CF = false ∧ f.ZF = false), (.js disp, f.SF = true), (.jns disp, f.SF = false),
   (.jp disp, f.PF = true), (.jnp disp, f.PF = false), (.jl disp, f.SF ≠ f.OF), (.jge disp, f.SF = f.OF),
   (.jle disp, f.SF ≠ f.OF ∨ f.ZF = true), (.jg disp, f.ZF = false ∧ f.SF = f.OF)]

/-- The SET(condition) instructions with the condition of R143 each tests. -/
def setccTable (f : Flags) (rm : Rm) : List (Instr × Prop) :=
  [(.seto rm, f.OF = true), (.setno rm, f.OF = false), (.setb rm, f.CF = true), (.setae rm, f.CF = false),
   (.sete rm, f.ZF = true), (.setne rm, f.ZF = false), (.setbe rm, f.CF = true ∨ f.ZF = true),
   (.seta rm, f.CF = false ∧ f.ZF = false), (.sets rm, f.SF = true), (.setns rm, f.SF = false),
   (.setp rm, f.PF = true), (.setnp rm, f.PF = false), (.setl rm, f.SF ≠ f.OF), (.setge rm, f.SF = f.OF),
   (.setle rm, f.SF ≠ f.OF ∨ f.ZF = true), (.setg rm, f.ZF = false ∧ f.SF = f.OF)]

/-- The 8087 instructions with two register operands: the function, the destination, the source. -/
def stArithTable (n : Bits3) : List (Instr × (TReal → TReal → TReal) × Nat × Nat) :=
  [(.faddStSti n, Config.fadd, 0, n.bits.toNat), (.faddStiSt n, Config.fadd, n.bits.toNat, 0),
   (.fsubStSti n, Config.fsub, 0, n.bits.toNat), (.fsubStiSt n, Config.fsub, n.bits.toNat, 0),
   (.fmulStSti n, Config.fmul, 0, n.bits.toNat), (.fmulStiSt n, Config.fmul, n.bits.toNat, 0),
   (.fdivStSti n, Config.fdiv, 0, n.bits.toNat), (.fdivStiSt n, Config.fdiv, n.bits.toNat, 0)]

/-- The 8087 instructions without operands: the function of ST(1) and ST(0). -/
def stPopTable : List (Instr × (TReal → TReal → TReal)) :=
  [(.faddP, Config.fadd), (.fsubP, Config.fsub), (.fmulP, Config.fmul), (.fdivP, Config.fdiv)]

/-- A memory operand of an 8087 instruction: how many bytes it has, and their value (R422, R423). -/
abbrev FpuOperand := Nat × (State → Word → Word → TReal)

/-- A short real. -/
def shortReal : FpuOperand := (4, fun s seg off => Config.ofReal32 (s.read32 seg off))

/-- A long real. -/
def longReal : FpuOperand := (8, fun s seg off => Config.ofReal64 (s.read64 seg off))

/-- A word integer. -/
def wordInteger : FpuOperand := (2, fun s seg off => Config.ofInt16 (s.read16 seg off))

/-- A short integer. -/
def shortInteger : FpuOperand := (4, fun s seg off => Config.ofInt32 (s.read32 seg off))

/-- A long integer. -/
def longInteger : FpuOperand := (8, fun s seg off => Config.ofInt64 (s.read64 seg off))

/-- A temporary real. -/
def temporaryReal : FpuOperand := (10, fun s seg off => s.read80 seg off)

/-- A packed decimal. -/
def packedDecimal : FpuOperand := (10, fun s seg off => Config.ofBcd (s.read80 seg off))

/-- The 8087 arithmetic instructions with a memory operand. -/
def stMemTable (rm : Rm) : List (Instr × (TReal → TReal → TReal) × FpuOperand) :=
  [(.faddM32 rm, Config.fadd, shortReal), (.faddM64 rm, Config.fadd, longReal),
   (.fsubM32 rm, Config.fsub, shortReal), (.fsubM64 rm, Config.fsub, longReal),
   (.fmulM32 rm, Config.fmul, shortReal), (.fmulM64 rm, Config.fmul, longReal),
   (.fdivM32 rm, Config.fdiv, shortReal), (.fdivM64 rm, Config.fdiv, longReal),
   (.fiaddM16 rm, Config.fadd, wordInteger), (.fiaddM32 rm, Config.fadd, shortInteger),
   (.fisubM16 rm, Config.fsub, wordInteger), (.fisubM32 rm, Config.fsub, shortInteger),
   (.fimulM16 rm, Config.fmul, wordInteger), (.fimulM32 rm, Config.fmul, shortInteger),
   (.fidivM16 rm, Config.fdiv, wordInteger), (.fidivM32 rm, Config.fdiv, shortInteger)]

/-- The 8087 loads from memory. -/
def stLoadTable (rm : Rm) : List (Instr × FpuOperand) :=
  [(.fldM32 rm, shortReal), (.fldM64 rm, longReal), (.fldM80 rm, temporaryReal),
   (.fildM16 rm, wordInteger), (.fildM32 rm, shortInteger), (.fildM64 rm, longInteger),
   (.fbld rm, packedDecimal)]

/-- The 8087 stores of 16 bits, with the value stored for ST(0). -/
def stStore16Table (rm : Rm) : List (Instr × (TReal → BitVec 16) × Bool) :=
  [(.fistM16 rm, Config.toInt16, false), (.fistpM16 rm, Config.toInt16, true)]

/-- The 8087 stores of 32 bits; the flag says whether the stack is popped. -/
def stStore32Table (rm : Rm) : List (Instr × (TReal → BitVec 32) × Bool) :=
  [(.fstM32 rm, Config.toReal32, false), (.fstpM32 rm, Config.toReal32, true),
   (.fistM32 rm, Config.toInt32, false), (.fistpM32 rm, Config.toInt32, true)]

/-- The 8087 stores of 64 bits. -/
def stStore64Table (rm : Rm) : List (Instr × (TReal → BitVec 64) × Bool) :=
  [(.fstM64 rm, Config.toReal64, false), (.fstpM64 rm, Config.toReal64, true),
   (.fistpM64 rm, Config.toInt64, true)]

/-- The 8087 stores of 80 bits. -/
def stStore80Table (rm : Rm) : List (Instr × (TReal → BitVec 80) × Bool) :=
  [(.fstpM80 rm, fun x => x, true), (.fbstp rm, Config.toBcd, true)]

/-- The 8087 stack popped: ST(i+1) becomes ST(i) and the bottom place is empty (R420). -/
def poppedStack (st : List (Option TReal)) : List (Option TReal) := st.tail ++ [none]

/-- A next state with another 8087 stack and other memory at the listed addresses, with what prefetch may hold
of it; the rest is `s` (R420). -/
def FpuEffect (r : Result) (s : State) (st : List (Option TReal)) (stored : List Nat) (t : State) : Prop :=
  r = .next t ∧ t = { s with fpu := st, mem := t.mem, ctl := { s.ctl with stale := t.ctl.stale } } ∧
    SameBytes s t stored ∧ StaleFrom s t stored

/-- `i` is refused when it has come to the state `u`, or abandoned there where the reset has come (R420, R540;
log 15). -/
def RefusedAt (i : Instr) (s u : State) (r : Refusal) : Prop :=
  (u.resetReached = false → exec i s = .refused r) ∧ (u.resetReached = true → exec i s = .next u)

/-! ## Shifts and rotates -/

/-- The flags of a shift: CF, OF, AF and the result flags (R301 to R304, R320 to R322). -/
def shiftFlags {n : Nat} (f : Flags) (v : BitVec n) (cf o a : Bool) : Flags :=
  { resultFlags f v with CF := cf, OF := o, AF := a }

/-- A shift or rotate by 0 reads its operand and does nothing else (D16, U1, U2; log 12). -/
def ShiftsNothing (i : Instr) (s : State) (w : Width) (rm : Rm) : Prop :=
  exec i s = .next (s.rmAfter w rm) ∧ (s.still → exec i s = .next s)

/-- The count a shift or rotate by CL takes (R300). -/
def clCount (s : State) : Nat := (s.regs.get8 .b001 &&& s.cfg.shiftCountMask).toNat

/-- The count a shift or rotate by an immediate takes (R458). -/
def byteCount (s : State) (cnt : Byte) : Nat := (cnt &&& s.cfg.shiftCountMask).toNat

/-- CF and the operand as one number of n + 1 bits, CF at the top (R310, R311). -/
def withCarry {n : Nat} (cf : Bool) (x : BitVec n) : BitVec (1 + n) := BitVec.ofBool cf ++ x

/-! ## Division -/

/-- Dividend `n` by divisor `d` gives the quotient `q`, in its range, and the remainder `r`, which is smaller
than the divisor and has the dividend's sign (R256, R257). -/
abbrev divides (n d q r least greatest : Int) : Prop :=
  d ≠ 0 ∧ n = q * d + r ∧ r.natAbs < d.natAbs ∧ (0 < n → 0 ≤ r) ∧ (n < 0 → r ≤ 0) ∧
    least ≤ q ∧ q ≤ greatest

/-- Dividend `n` by divisor `d` is a divide error: the divisor is 0, or the quotient `q` does not fit
(R256, R257). -/
abbrev divideFails (n d q r least greatest : Int) : Prop :=
  d = 0 ∨ (n = q * d + r ∧ r.natAbs < d.natAbs ∧ (0 < n → 0 ≤ r) ∧ (n < 0 → r ≤ 0) ∧
    (q < least ∨ greatest < q))

/-- The least quotient IDIV takes, from the most negative one (R257). -/
def leastQuotient (c : Config) (mostNegative : Int) : Int :=
  if c.idivMostNegativeOk then mostNegative else mostNegative + 1

/-! ## Ports -/

/-- `t` is `s` after it has read the byte `v` from a port (R78). -/
def ReadsPort (s : State) (port : Word) (v : Byte) (t : State) : Prop :=
  t = { s with
    env := { s.env with portIn := s.env.portIn.tail }, io := .input port v :: s.io, draws := t.draws } ∧
    ∀ x ∈ s.env.portIn.head?, v = x

/-- `t` is `s` after it has read the operand `v` from a port; a word is two bytes, the low port first (R78). -/
def ReadsPorts (s : State) (port : Word) : (w : Width) → BitVec w.bits → State → Prop
  | .byte, v, t => ReadsPort s port v t
  | .word, v, t => ∃ u, ReadsPort s port (lowByte v) u ∧ ReadsPort u (port + 1) (highByte v) t

/-- The accesses of a write to a port, the latest first; a word is two bytes, the low port first (R78). -/
def portWrites (port : Word) : (w : Width) → BitVec w.bits → List IoEvent
  | .byte, v => [.output port v]
  | .word, v => [.output (port + 1) (highByte v), .output port (lowByte v)]

/-! ## Steps -/

/-- No interrupt request is recognised at this boundary (R510). -/
def State.noRequest (s : State) : Prop :=
  s.ctl.inhibit = true ∨
    (s.env.nmiPending = false ∧ (s.env.intrPending = false ∨ s.flags.IF = false))

/-- A running processor between two instructions, to which no reset arrives. -/
def State.ready (s : State) : Prop :=
  s.resetRequested = false ∧ s.ctl.run = .running ∧ s.ctl.resume = none

/-- The state in which a fetched instruction runs: its bytes fetched, with what comes from outside meanwhile,
IP past them, `IP_at_start` at the first prefix, `inhibit_once` false so that the instruction can set it (R515),
the bus locked under LOCK (R24, R50, R90; log 7). Each byte that prefetch may hold has had its draw (R95). -/
def State.fetched (s : State) (i : Instr) (rest : List Byte) : State :=
  { s.accesses (s.fetchBytes.length - rest.length) with
    regs := { s.regs with ip := s.regs.ip + BitVec.ofNat 16 (s.fetchBytes.length - rest.length) }
    ctl := { s.ctl with
      inhibit := false
      startIp := if s.ctl.pfx = Prefixes.empty then s.regs.ip else s.ctl.startIp
      busLock := s.ctl.pfx.lock && !isPrefix i }
    draws := s.draws + s.ctl.stale.length }

/-- The state after an instruction that has completed: the prefixes are gone (R49), the bus is free (R50), and
the single-step trap is taken where TF was set when it began, unless it sets the interrupt shadow (R512;
DEDUCED, log 39). -/
def State.completed (t : State) (tf0 : Bool) : State :=
  let u := { t with ctl := { t.ctl with pfx := Prefixes.empty, busLock := false } }
  if tf0 = true ∧ t.ctl.inhibit = false then u.interrupt 1 t.regs.ip else u

/-- The state after the meaning of an instruction that began with TF as `tf0`, in an interrupt shadow where
`shadow` holds: a prefix waits for its opcode; an instruction still under way stays so,
with the bus locked between the iterations of a locked repetition only, and the shadow kept in a repetition
only; any other has completed, and the shadow is what it has set. Whether a shadow stands so long is free (R48,
R510; DESIGN CHOICE, log 37). -/
def State.afterMeaning (t : State) (i : Instr) (tf0 shadow : Bool) : State :=
  if isPrefix i = true then { t with ctl := { t.ctl with inhibit := shadow && Config.shadowStands } }
  else if t.underWay = true then
    { t with ctl := { t.ctl with
        busLock := t.ctl.busLock && t.ctl.resume.isSome
        inhibit := shadow && Config.shadowStands && t.ctl.resume.isSome } }
  else t.completed tf0

/-! ## The environment -/

/-- The bytes that bus events store, in order. -/
def cellsOf : List BusEvent → List Host.Cell
  | [] => []
  | .stores cells :: rest => cells ++ cellsOf rest
  | .reset :: rest => cellsOf rest

/-- `t` holds what the reset event puts in place of `s` (R540, R541): the parameter RESET, any general registers,
an empty prefetch and a free bus; the parameters and the accesses to the I/O space so far are those of `s`. -/
def AfterReset (s t : State) : Prop :=
  (∃ g : Regs, t.regs = { g with
    ip := s.cfg.reset.ip, cs := s.cfg.reset.cs, ds := s.cfg.reset.ds, es := s.cfg.reset.es
    ss := s.cfg.reset.ss }) ∧
  t.flags = s.cfg.reset.flags ∧ t.ctl.run = s.cfg.reset.run ∧ t.ctl.inhibit = s.cfg.reset.inhibit ∧
  t.ctl.pfx = s.cfg.reset.pfx ∧ t.ctl.resume = none ∧ t.ctl.busLock = false ∧ t.ctl.stale = [] ∧
  t.env.nmiPending = s.cfg.reset.nmiPending ∧ t.env.intrPending = s.cfg.reset.intrPending ∧
  t.fpu = List.replicate s.cfg.stDepth s.cfg.reset.st ∧ t.io = s.io ∧ t.cfg = s.cfg

/-- Memory after stores of other agents, in order (R90). -/
def storedBy (c : Config) (m : List Host.Cell) (cells : List Host.Cell) : List Host.Cell :=
  cells.foldl (fun m c' => Memory.write m (c'.1 % 2 ^ c.physBits) c'.2) m

end Sys2Proof.Machine
end

