-- ==== Sys2Proof/Certificates/Slice0/Obligations.lean ====
section
/-! DEFINITION. The statements for the provers. The right sides say what the rules of spec/ say, in numbers
where the rules speak of numbers; a value the spec leaves undefined stands under an existential quantifier,
so no statement rests on it. -/

open Sys2Proof Sys2Proof.Machine

/-! ## Encoding -/

/-- Decoding the encoding of a well-formed instruction gives it back, whatever bytes follow, in every
configuration (R110 to R125). -/
def Obligations.DecodeEncode : Prop :=
  ∀ (c : Config) (i : Instr) (rest : List Byte), i.wellFormed c = true →
    decode c (encode i ++ rest) = .ok (i, rest)

/-- What the decoder gives is well-formed in the configuration it decodes for, and the bytes it takes are the
instruction's encoding: no two byte sequences are one instruction. -/
def Obligations.DecodeSound : Prop :=
  ∀ (c : Config) (bs : List Byte) (i : Instr) (rest : List Byte), decode c bs = .ok (i, rest) →
    i.wellFormed c = true ∧ bs = encode i ++ rest

/-- A few encodings written out from the spec (R118, R201, R204, R207, R372, R413, R483). -/
def Obligations.SampleEncodings : Prop :=
  decode resetConfig [0x01, 0xC8, 0, 0, 0, 0] = .ok (.addRm .toRm .word (.reg .b000) .b001, [0, 0, 0, 0]) ∧
  decode resetConfig [0x8B, 0x46, 0xFE, 0, 0, 0] =
    .ok (.movRm .toReg .word (.disp8 .bp 0xFE) .b000, [0, 0, 0]) ∧
  decode resetConfig [0xC7, 0x06, 0x00, 0x02, 0x34, 0x12] =
    .ok (.movRmImm .word (.direct 0x0200) 0x1234#16, []) ∧
  decode resetConfig [0xC5, 0x37, 0, 0, 0, 0] = .ok (.lds .b110 (.base .bx), [0, 0, 0, 0]) ∧
  decode resetConfig [0xCD, 0x21, 0, 0, 0, 0] = .ok (.intN 0x21, [0, 0, 0, 0]) ∧
  decode resetConfig [0x26, 0x8A, 0x07, 0, 0, 0] = .ok (.segEs, [0x8A, 0x07, 0, 0, 0]) ∧
  decode resetConfig [0x0F, 0xA4, 0xD8, 0x04, 0, 0] = .ok (.shldImm (.reg .b000) .b011 0x04, [0, 0])

/-- The encodings of R150 are refused: first bytes that are undefined at every level and at each level; every
second byte after 0F that R142 does not list, 0F B7 and 0F BF among them (R489); undefined extensions in the
REG field, of SET(condition) too (R480); a second byte of AAM or AAD other than 0Ah; MOD = 11 where the operand
must be in memory. The last item of R150, prefixes, is StepRuns and PrefixesNoted. -/
def Obligations.EncodingsRefused : Prop :=
  ∀ (c : Config) (m : Byte) (rest : List Byte),
    (∀ b ∈ ([0x62, 0x63, 0x64, 0x65, 0x66, 0x67, 0xC8, 0xC9, 0xD6, 0xF1, 0x82] : List Byte),
      ∃ e, decode c (b :: m :: rest) = .error e) ∧
    (c.level = .l8086 →
      ∀ b ∈ ([0x0F, 0x60, 0x61, 0x68, 0x69, 0x6A, 0x6B, 0x6C, 0x6D, 0x6E, 0x6F, 0xC0, 0xC1] : List Byte),
      ∃ e, decode c (b :: m :: rest) = .error e) ∧
    (c.level = .l80286 → ∃ e, decode c (0x0F :: m :: rest) = .error e) ∧
    (∀ p ∈ ([(0x83, 1), (0x83, 4), (0x83, 6), (0x8C, 4), (0x8C, 5), (0x8C, 6), (0x8C, 7), (0x8E, 1),
        (0x8E, 4), (0x8E, 5), (0x8E, 6), (0x8E, 7), (0x8F, 1), (0x8F, 2), (0x8F, 3), (0x8F, 4), (0x8F, 5),
        (0x8F, 6), (0x8F, 7), (0xC6, 1), (0xC6, 2), (0xC6, 3), (0xC6, 4), (0xC6, 5), (0xC6, 6), (0xC6, 7),
        (0xC7, 1), (0xC7, 2), (0xC7, 3), (0xC7, 4), (0xC7, 5), (0xC7, 6), (0xC7, 7), (0xC0, 6), (0xC1, 6),
        (0xD0, 6), (0xD1, 6), (0xD2, 6), (0xD3, 6), (0xF6, 1), (0xF7, 1), (0xFE, 2), (0xFE, 3), (0xFE, 4),
        (0xFE, 5), (0xFE, 6), (0xFE, 7), (0xFF, 7)] : List (Byte × Nat)),
      m.toNat / 8 % 8 = p.2 → ∃ e, decode c (p.1 :: m :: rest) = .error e) ∧
    (m.toNat / 8 % 8 < 4 → ∃ e, decode c (0x0F :: 0xBA :: m :: rest) = .error e) ∧
    (m.toNat / 16 ≠ 9 →
      m ∉ ([0xA3, 0xA4, 0xA5, 0xAB, 0xAC, 0xAD, 0xB3, 0xB6, 0xBA, 0xBB, 0xBC, 0xBD, 0xBE] : List Byte) →
      ∃ e, decode c (0x0F :: m :: rest) = .error e) ∧
    (∀ b : Byte, b.toNat / 16 = 9 → m.toNat / 8 % 8 ≠ 0 → ∃ e, decode c (0x0F :: b :: m :: rest) = .error e) ∧
    (m ≠ 0x0A → ∃ e, decode c (0xD4 :: m :: rest) = .error e) ∧
    (m ≠ 0x0A → ∃ e, decode c (0xD5 :: m :: rest) = .error e) ∧
    (0xC0 ≤ m.toNat → ∀ b ∈ ([0x8D, 0xC4, 0xC5] : List Byte), ∃ e, decode c (b :: m :: rest) = .error e) ∧
    (0xC0 ≤ m.toNat → (m.toNat / 8 % 8 = 3 ∨ m.toNat / 8 % 8 = 5) →
      ∃ e, decode c (0xFF :: m :: rest) = .error e)

/-! ## The step -/

/-- The fetch takes the bytes at CS:IP from memory, six (log 28) or as many as come before a reset (log 15), byte k
in the state of its own access; the offset wraps in the segment; with nothing that prefetch may hold, they are
the bytes memory then has (R25, R75, R90). When they decode to `i`, and no request is recognised, the step is
`exec i` with IP past the instruction's bytes, then its end (R24, R49, R126, R512; log 6, log 7); when they do
not decode, it is refused (R150, R565), but bytes that a reset cuts off leave the reset. A repeat prefix before
an instruction that is no string instruction is refused (R126). A reset that comes before the meaning leaves
nothing of the instruction (R540; log 15). The bus is not locked while the instruction is fetched (log 23), and
stays locked after it only between the iterations of a locked repetition (DESIGN CHOICE, log 35). An
interrupt shadow is over when the instruction has completed, unless the instruction sets one itself; whether it
stands through its prefixes and its iterations is free (R48, R510; DESIGN CHOICE, log 37). The step begins in
the state that the environment's input gives (log 15). -/
def Obligations.StepRuns : Prop :=
  ∀ (s : State) (i : Instr) (rest : List Byte) (e : DecodeError),
    let u := s.deliver
    let v := u.fetched i rest
    (∀ k, ((u.accesses k).resetReached = true ∨ 6 ≤ k) → u.fetchBytes[k]? = none) ∧
    (∀ k, k < 6 → (u.accesses k).resetReached = false → u.fetchBytes[k]? = some (u.fetchByte k) ∧
      (u.ctl.stale = [] → u.fetchByte k = Memory.read (u.accesses (k + 1)).mem
        (phys u.cfg u.regs.cs (u.regs.ip + BitVec.ofNat 16 k)))) ∧
    (s.ready → (u.ctl.pfx ≠ Prefixes.empty ∨ u.noRequest) →
      (decode u.cfg u.fetchBytes = .error e → e ≠ .truncated → step s = .refused (.encoding e)) ∧
      (decode u.cfg u.fetchBytes = .error .truncated → u.fetchBytes.length < 6 →
        step s = .next { u.accesses 6 with draws := u.draws + u.ctl.stale.length }.settle) ∧
      (decode u.cfg u.fetchBytes = .ok (i, rest) →
        (v.resetReached = true → step s = .next v.settle) ∧
        (v.resetReached = false →
          (u.ctl.pfx.rep.isSome = true → isPrefix i = false → isString i = false →
            step s = .refused .repBeforeNonString) ∧
          ((u.ctl.pfx.rep = none ∨ isPrefix i = true ∨ isString i = true) →
            (∀ r, exec i v = .refused r → step s = .refused r) ∧
            (∀ t, exec i v = .next t → step s = .next (t.afterMeaning i u.flags.TF u.ctl.inhibit).settle)))))

/-- A repetition under way goes on with its next iteration, without a new fetch, when no request is
recognised (R339, R340; log 8); under LOCK the bus is locked in it and stays locked until the next one (DESIGN
CHOICE, log 35). While an interrupt shadow stands no request is recognised between its iterations; whether one
stands until it has completed is free (R48, R510; DESIGN CHOICE, log 37). A halted processor to which no request arrives stays as it is,
and one in the wait state goes on after the WAIT when the coprocessor is ready, and stays before, neither in a
shadow (R407, R408, R510; log 37); a request comes first (RequestTaken; DESIGN CHOICE, log 18). -/
def Obligations.StepsUnderWay : Prop :=
  ∀ s : State,
    let u := s.deliver
    s.resetRequested = false → u.noRequest →
    (∀ r, u.ctl.run = .running → u.ctl.resume = some r → isString r.instr = true → u.resetReached = false →
      ∀ t, exec r.instr { u with
          regs := { u.regs with ip := r.ipNext }
          ctl := { u.ctl with resume := none, inhibit := false, busLock := u.ctl.pfx.lock } } = .next t →
        step s = .next (t.afterMeaning r.instr u.flags.TF u.ctl.inhibit).settle) ∧
    (u.ctl.run = .halted → u.ctl.pfx = Prefixes.empty →
      step s = .next { u with ctl := { u.ctl with inhibit := false } }.settle) ∧
    (∀ ipNext, u.ctl.run = .waiting ipNext →
      ((u.env.testReady = true ∨ u.cfg.has8087 = false) →
        step s = .next ({ u with
          regs := { u.regs with ip := ipNext }
          ctl := { u.ctl with run := .running, inhibit := false } }.completed u.flags.TF).settle) ∧
      (u.env.testReady = false → u.cfg.has8087 = true →
        step s = .next { u with ctl := { u.ctl with inhibit := false } }.settle))

/-- An input of the environment (R47, R90, R408; log 15): a non-maskable request stays pending; the maskable line
is raised with its type, withdrawn or kept; TEST_ready changes; other agents' bytes are stored in order, or
wait while a locked repetition holds the bus (R92, R341; log 23, log 35). Without an input nothing changes. What the
accesses of the step left of the bus events happens at its end, and where nothing was left it changes
nothing. -/
def Obligations.EnvironmentInputs : Prop :=
  ∀ (s : State) (e : Input) (rest : List Input),
    (s.env.inputs = [] → s.deliver = s ∧ s.resetRequested = false) ∧
    (s.env.inputs = e :: rest →
      s.resetRequested = e.reset ∧
      s.deliver.env.nmiPending = (s.env.nmiPending || e.nmi) ∧
      (e.intr = .keep →
        s.deliver.env.intrPending = s.env.intrPending ∧ s.deliver.env.intrType = s.env.intrType) ∧
      (∀ n, e.intr = .request n → s.deliver.env.intrPending = true ∧ s.deliver.env.intrType = n) ∧
      (e.intr = .withdraw → s.deliver.env.intrPending = false) ∧
      (e.testReady = none → s.deliver.env.testReady = s.env.testReady) ∧
      (∀ b, e.testReady = some b → s.deliver.env.testReady = b) ∧
      s.deliver.env.inputs = rest ∧ s.deliver.env.bus = e.bus ∧ s.deliver.env.portIn = s.env.portIn ∧
      (s.ctl.busLock = false →
        s.deliver.mem = storedBy s.cfg s.mem (s.env.held ++ e.writes) ∧ s.deliver.env.held = []) ∧
      (s.ctl.busLock = true → s.deliver.mem = s.mem ∧ s.deliver.env.held = s.env.held ++ e.writes) ∧
      s.deliver = { s with env := s.deliver.env, mem := s.deliver.mem }) ∧
    ((∀ x ∈ s.env.bus, x ≠ .reset) →
      (s.ctl.busLock = false → s.settle = { s with
        env := { s.env with bus := [], held := [] }
        mem := storedBy s.cfg s.mem (s.env.held ++ cellsOf s.env.bus) }) ∧
      (s.ctl.busLock = true → s.settle = { s with
        env := { s.env with bus := [], held := s.env.held ++ cellsOf s.env.bus } })) ∧
    (s.still → s.env.held = [] → s.settle = s)

/-- What comes from outside between the accesses (R82, R90, R92, R410, R534, R540; log 24). Before each byte access
the next event: other agents' stores, which the access then sees; while the bus is locked they wait, and are
not lost (log 23), and the access does not see them; or the reset, after which nothing reaches memory or the
ports (log 15). So an instruction that reads and writes its operand under LOCK does what it does alone, and the
stores that came meanwhile all wait; XCHG does so without LOCK too (D37; log 36). Where nothing comes, an
access changes nothing. -/
def Obligations.BusAccesses : Prop :=
  ∀ (s : State) (seg off port : Word) (v : Byte) (cells : List Host.Cell) (rest : List BusEvent),
    (s.env.bus = .stores cells :: rest → s.ctl.busLock = false →
      let m := storedBy s.cfg s.mem (s.env.held ++ cells)
      s.access = { s with env := { s.env with bus := rest, held := [] }, mem := m } ∧
      s.read8 seg off = Memory.read m (phys s.cfg seg off) ∧
      (s.write8 seg off v).mem = Memory.write m (phys s.cfg seg off) v ∧
      (s.write8 seg off v).env = { s.env with bus := rest, held := [] }) ∧
    (s.env.bus = .stores cells :: rest → s.ctl.busLock = true →
      s.access = { s with env := { s.env with bus := rest, held := s.env.held ++ cells } } ∧
      s.read8 seg off = Memory.read s.mem (phys s.cfg seg off) ∧
      (s.write8 seg off v).mem = Memory.write s.mem (phys s.cfg seg off) v ∧
      (s.write8 seg off v).env = { s.env with bus := rest, held := s.env.held ++ cells }) ∧
    (s.env.bus = .reset :: rest →
      s.access = s ∧ s.write8 seg off v = s ∧ s.portRead port = s ∧ s.portWrite port v = s) ∧
    (s.ctl.busLock = true → (∀ x ∈ s.env.bus, x ≠ .reset) →
      ∀ (w : Width) (rm : Rm) (n : Bits3) (imm : BitVec w.bits) (b : Byte) (c : ShiftCount),
      ∀ i ∈ [Instr.addRm .toRm w rm n, .adcRm .toRm w rm n, .subRm .toRm w rm n, .sbbRm .toRm w rm n,
          .andRm .toRm w rm n, .orRm .toRm w rm n, .xorRm .toRm w rm n, .addImm w rm imm, .adcImm w rm imm,
          .subImm w rm imm, .sbbImm w rm imm, .andImm w rm imm, .orImm w rm imm, .xorImm w rm imm,
          .addImmS rm b, .adcImmS rm b, .subImmS rm b, .sbbImmS rm b, .incRm w rm, .decRm w rm, .neg w rm,
          .not w rm, .xchgRm w rm n, .rol c w rm, .ror c w rm, .rcl c w rm, .rcr c w rm, .shl c w rm,
          .shr c w rm, .sar c w rm, .bts rm n, .btr rm n, .btc rm n, .btsImm rm b, .btrImm rm b,
          .btcImm rm b],
        ∃ t k, exec i { s with env := { s.env with bus := [] } } = .next t ∧
          exec i s = .next { t with env := { t.env with
            bus := s.env.bus.drop k, held := s.env.held ++ cellsOf (s.env.bus.take k) } }) ∧
    ((∀ x ∈ s.env.bus, x ≠ .reset) → ∀ (w : Width) (rm : Rm) (n : Bits3),
      ∃ t k, exec (.xchgRm w rm n) { s with env := { s.env with bus := [] } } = .next t ∧
        exec (.xchgRm w rm n) s = .next { t with env := { t.env with
          bus := s.env.bus.drop k, held := s.env.held ++ cellsOf (s.env.bus.take k) } }) ∧
    (s.still → ∀ n, s.accesses n = s)

/-- Instruction prefetch (R95, R552, U10; log 5). A store to an address within PREFETCH_BYTES after the end of
the storing instruction leaves the byte from before as one that a fetch may return; a store elsewhere leaves
none. A fetched byte is the one memory holds, or a byte from before such a store; with one such store it is
either, by a free draw, whoever stored the byte that memory holds (DESIGN CHOICE, log 5). An interrupt entry
and the reset event discard what was prefetched (so do the taken jumps, calls and
returns: Jumps and Calls in their statements). -/
def Obligations.PrefetchWindow : Prop :=
  ∀ (s : State) (a : Nat) (v : Byte) (k : Nat) (n : Byte) (r : Word),
    let at_ (k : Nat) : Nat := phys s.cfg s.regs.cs (s.regs.ip + BitVec.ofNat 16 k)
    let now : Byte := Memory.read (s.accesses (k + 1)).mem (at_ k)
    (s.store a v).mem = Memory.write s.mem a v ∧
    ((∃ j, j < s.cfg.prefetchBytes ∧ a = at_ j) →
      (s.store a v).ctl.stale = (a, Memory.read s.mem a) :: s.ctl.stale) ∧
    ((∀ j, j < s.cfg.prefetchBytes → a ≠ at_ j) → (s.store a v).ctl.stale = s.ctl.stale) ∧
    (s.fetchByte k = now ∨ ∃ c ∈ s.ctl.stale, c.1 = at_ k ∧ s.fetchByte k = c.2) ∧
    (s.ctl.stale = [(at_ k, v)] → s.fetchByte k = if Config.freeBit s.draws = true then v else now) ∧
    (s.interrupt n r).ctl.stale = [] ∧ s.resetEvent.ctl.stale = []

/-- Every step keeps the invariant: memory canonical and inside the address space, ST_DEPTH places on the
8087 stack, a repetition under way as it should be, the bus locked between steps by a locked repetition only
and nothing left over on it (R50, R55, R71, R92, R339); and no step changes the parameters of the machine
(R5). -/
def Obligations.InvKept : Prop :=
  ∀ s t : State, step s = .next t → t.cfg = s.cfg ∧ (s.inv = true → t.inv = true)

/-- The invariant holds after reset. -/
def Obligations.InvReset : Prop := State.reset.inv = true

/-- What R60 gives the state after reset, and the default of the parameter RESET. The general registers, memory
and the other parameters, which it leaves open, are not stated. -/
def Obligations.ResetState : Prop :=
  State.reset.regs.ip = 0x0000 ∧ State.reset.regs.cs = 0xFFFF ∧ State.reset.regs.ds = 0x0000 ∧
  State.reset.regs.es = 0x0000 ∧ State.reset.regs.ss = 0x0000 ∧
  State.reset.flags = ⟨false, false, false, false, false, false, false, false, false⟩ ∧
  State.reset.ctl.run = .running ∧ State.reset.env.intrPending = false ∧
  State.reset.env.nmiPending = false ∧ State.reset.ctl.inhibit = false ∧
  State.reset.ctl.pfx = Prefixes.empty ∧ (∀ n, State.reset.st n = none) ∧
  phys State.reset.cfg State.reset.regs.cs State.reset.regs.ip = 0xFFFF0 ∧
  State.reset.flagsImage = State.reset.cfg.flagsFixed &&& 0xF02A ∧
  ∀ c ∈ [State.reset.cfg, resetConfig, config8086, config80286],
    c.reset.ip = 0x0000 ∧ c.reset.cs = 0xFFFF ∧ c.reset.ds = 0x0000 ∧ c.reset.es = 0x0000 ∧
    c.reset.ss = 0x0000 ∧ c.reset.flags = ⟨false, false, false, false, false, false, false, false, false⟩ ∧
    c.reset.run = .running ∧ c.reset.intrPending = false ∧ c.reset.nmiPending = false ∧
    c.reset.inhibit = false ∧ c.reset.pfx = Prefixes.empty ∧ c.reset.st = none

/-- The reset event (R540, R541): in any state it puts the values of the parameter RESET in place and touches
no memory and no port; the general registers may hold anything after it. It comes before a step, or in the
middle of an instruction, whose effects since then are abandoned: of what it did before, the stores and the
port accesses stay. The input's own stores come first, then its bus events (log 15). Memory changes only by the
stores of other agents; those that waited for the bus happen, as the reset frees it (log 25; R541 leaves other
agents to the platform). -/
def Obligations.ResetEvent : Prop :=
  (∀ (s : State) (e : Input) (rest : List Input), s.env.inputs = e :: rest → e.reset = true →
    ∃ t, step s = .next t ∧ AfterReset s t ∧ t.env.inputs = rest ∧
      t.mem = storedBy s.cfg s.mem (s.env.held ++ e.writes ++ cellsOf e.bus)) ∧
  (∀ (t : State) (rest : List BusEvent), t.env.bus = .reset :: rest →
    AfterReset t t.settle ∧ t.settle.env.inputs = t.env.inputs ∧
      t.settle.mem = storedBy t.cfg t.mem (t.env.held ++ cellsOf rest))

/-! ## Interrupts -/

/-- `Interrupt(t)` with the saved IP `r` (R505, R504): FLAGS, CS and the saved IP pushed, IF and TF cleared,
CS and IP from the vector, the processor running without a shadow, what was prefetched discarded (R552);
nothing else changes. The vector's CS is read before the saved IP is pushed, its IP after. -/
def Obligations.InterruptEntry : Prop :=
  ∀ (s : State) (n : Byte) (r : Word), s.still → s.memOk = true →
    (s.interrupt n r).read16 s.regs.ss (s.regs.sp - 2) = s.flagsImage ∧
    (s.interrupt n r).read16 s.regs.ss (s.regs.sp - 4) = s.regs.cs ∧
    (s.interrupt n r).read16 s.regs.ss (s.regs.sp - 6) = r ∧
    (s.interrupt n r).regs.cs =
      ((s.push s.flagsImage).push s.regs.cs).memWord (s.cfg.ivtBase + 4 * n.toNat + 2) ∧
    (s.interrupt n r).regs.ip = (s.interrupt n r).memWord (s.cfg.ivtBase + 4 * n.toNat) ∧
    (s.interrupt n r).memOk = true ∧
    SameBytes s (s.interrupt n r) (bytesAt s.cfg s.regs.ss (s.regs.sp - 6) 6) ∧
    ((∀ k, k < 4 → (s.cfg.ivtBase + 4 * n.toNat + k) % 2 ^ s.cfg.physBits ∉
        bytesAt s.cfg s.regs.ss (s.regs.sp - 6) 6) →
      (s.interrupt n r).regs.cs = s.memWord (s.cfg.ivtBase + 4 * n.toNat + 2) ∧
      (s.interrupt n r).regs.ip = s.memWord (s.cfg.ivtBase + 4 * n.toNat)) ∧
    s.interrupt n r = { s with
      regs := { s.regs with
        sp := s.regs.sp - 6, cs := (s.interrupt n r).regs.cs, ip := (s.interrupt n r).regs.ip }
      flags := { s.flags with IF := false, TF := false }
      ctl := { s.ctl with run := .running, inhibit := false, stale := [] }
      mem := (s.interrupt n r).mem }

/-- IRET pops IP, CS and FLAGS (R375). After an interrupt it is the inverse: every register and flag is as
before, with IP the saved one, and it stores nothing (R520). -/
def Obligations.InterruptReturn : Prop :=
  ∀ (s : State) (n : Byte) (r : Word), s.still →
    Jumps .iret s
      { s.regs with
        sp := s.regs.sp + 6, ip := s.read16 s.regs.ss s.regs.sp
        cs := s.read16 s.regs.ss (s.regs.sp + 2) }
      (Flags.ofWord (s.read16 s.regs.ss (s.regs.sp + 4))) ∧
    (s.memOk = true →
      exec .iret (s.interrupt n r) = .next { s with
        regs := { s.regs with ip := r }
        ctl := { s.ctl with run := .running, inhibit := false, stale := [] }
        mem := (s.interrupt n r).mem })

/-- The software interrupts save the IP after them (R372, R373, R503); INTO is one only when OF = 1 (R374). -/
def Obligations.SoftwareInterrupts : Prop :=
  ∀ (s : State) (n : Byte),
    exec .int3 s = .next (s.interrupt 3 s.regs.ip) ∧
    exec (.intN n) s = .next (s.interrupt n s.regs.ip) ∧
    (s.flags.OF = true → exec .into s = .next (s.interrupt 4 s.regs.ip)) ∧
    (s.flags.OF = false → exec .into s = .next s)

/-- A request at a boundary (R510, R511), after the environment's input: the non-maskable one is taken as type
2 and is then no longer pending; else the maskable one, when IF = 1, with the type supplied. The prefixes and a
suspended repetition are given up with its bus lock, the saved IP is the current one (R340, R503), in every
run state, in the wait state also when the coprocessor is ready (DESIGN CHOICE, log 18). After the acknowledge
the maskable request is withdrawn (DESIGN CHOICE, log 16). A repetition that the request suspends takes its
single-step trap first, when TF = 1, and the request stays (R512; log 19). Until when a
shadow stands, which the premise on `inhibit` excludes, is log 37 (DESIGN CHOICE). The entry is a step of its
own (R555; DESIGN CHOICE, log 40). -/
def Obligations.RequestTaken : Prop :=
  ∀ s : State,
    let u := s.deliver
    let freed : Control := { u.ctl with pfx := Prefixes.empty, resume := none, busLock := false }
    s.resetRequested = false → u.ctl.inhibit = false →
    (u.ctl.pfx = Prefixes.empty ∨ u.underWay = true) →
    ((u.ctl.resume = none ∨ u.flags.TF = false) →
      (u.env.nmiPending = true →
        step s = .next ({ u with
          ctl := freed, env := { u.env with nmiPending := false } }.interrupt 2 u.regs.ip).settle) ∧
      (u.env.nmiPending = false → u.env.intrPending = true → u.flags.IF = true →
        step s = .next ({ u with
          ctl := freed, env := { u.env with intrPending := false } }.interrupt u.env.intrType
            u.regs.ip).settle)) ∧
    (u.ctl.resume.isSome = true → u.flags.TF = true →
      (u.env.nmiPending = true ∨ (u.env.intrPending = true ∧ u.flags.IF = true)) →
      step s = .next ({ u with ctl := freed }.interrupt 1 u.regs.ip).settle)

/-! ## Rules of the whole machine -/

/-- DF is written by CLD, STD, POPF and IRET only (R37); IF by CLI, STI, POPF, IRET and what takes an
interrupt (R38); TF by POPF, IRET and what takes an interrupt (R39). A segment register is written by the
instructions R28 and the rules of the transfers name, and by no other: CS by the far transfers and what takes
an interrupt; DS, ES, SS by MOV, POP and the pointer load. -/
def Obligations.ControlFlagAndSegmentWriters : Prop :=
  ∀ (i : Instr) (s t : State), exec i s = .next t →
    let traps : Prop := i = .int3 ∨ i = .into ∨ (∃ n, i = .intN n) ∨
      (∃ w rm, i = .div w rm) ∨ (∃ w rm, i = .idiv w rm)
    (t.flags.DF = s.flags.DF ∨ i = .cld ∨ i = .std ∨ i = .popf ∨ i = .iret) ∧
    (t.flags.IF = s.flags.IF ∨ i = .cli ∨ i = .sti ∨ i = .popf ∨ i = .iret ∨ traps) ∧
    (t.flags.TF = s.flags.TF ∨ i = .popf ∨ i = .iret ∨ traps) ∧
    (t.regs.cs = s.regs.cs ∨ (∃ o g, i = .callFar o g) ∨ (∃ rm, i = .callFarInd rm) ∨
      (∃ o g, i = .jmpFar o g) ∨ (∃ rm, i = .jmpFarInd rm) ∨ i = .retFar ∨ (∃ p, i = .retFarPop p) ∨
      i = .iret ∨ traps) ∧
    (t.regs.ds = s.regs.ds ∨ (∃ rm, i = .movSegRm .ds rm) ∨ i = .popDs ∨ ∃ r rm, i = .lds r rm) ∧
    (t.regs.es = s.regs.es ∨ (∃ rm, i = .movSegRm .es rm) ∨ i = .popEs ∨ ∃ r rm, i = .les r rm) ∧
    (t.regs.ss = s.regs.ss ∨ (∃ rm, i = .movSegRm .ss rm) ∨ i = .popSs)

/-- An 8087 instruction changes nothing but the 8087 stack and memory, no register and no flag of the 8086; every
other instruction leaves the 8087 stack alone (R420). No instruction sets or clears a pending request, or
touches the inputs to come (R47); only IN, INS, OUT and OUTS reach the ports (R78). What comes from outside
between its accesses, and what prefetch may hold, are the bus's own (R90, R95). -/
def Obligations.UnitsApart : Prop :=
  ∀ (i : Instr) (s t : State), exec i s = .next t →
    (i.part = .fpu8087 → t = { s with
      fpu := t.fpu, mem := t.mem, ctl := { s.ctl with stale := t.ctl.stale }
      env := { s.env with bus := t.env.bus, held := t.env.held } }) ∧
    (i.part ≠ .fpu8087 → t.fpu = s.fpu) ∧
    t.env = { s.env with portIn := t.env.portIn, bus := t.env.bus, held := t.env.held } ∧
    (t.io = s.io ∧ t.env.portIn = s.env.portIn ∨ (∃ w p, i = .inFixed w p) ∨ (∃ w, i = .inDx w) ∨
      (∃ w p, i = .outFixed w p) ∨ (∃ w, i = .outDx w) ∨ (∃ w, i = .ins w) ∨ ∃ w, i = .outs w)

/-! ## Registers, flags and memory -/

/-- The word registers are eight independent registers, the byte registers the halves of four of them: a
write of a byte register changes only its 8 bits, a write of a word register both its halves (R20, R21). -/
def Obligations.RegisterFile : Prop :=
  ∀ (g : Regs) (n m : Bits3) (v : Word) (b : Byte),
    [Bits3.b000, .b001, .b010, .b011, .b100, .b101, .b110, .b111].map g.get16 =
      [g.ax, g.cx, g.dx, g.bx, g.sp, g.bp, g.si, g.di] ∧
    (g.set16 n v).get16 m = (if m = n then v else g.get16 m) ∧
    (g.set8 n b).get8 m = (if m = n then b else g.get8 m) ∧
    (∀ p ∈ [(Bits3.b000, Bits3.b000, Bits3.b100), (.b001, .b001, .b101), (.b010, .b010, .b110),
        (.b011, .b011, .b111)],
      (g.get16 p.1).toNat = 256 * (g.get8 p.2.2).toNat + (g.get8 p.2.1).toNat) ∧
    (g.set8 n b).sp = g.sp ∧ (g.set8 n b).bp = g.bp ∧ (g.set8 n b).si = g.si ∧ (g.set8 n b).di = g.di ∧
    (g.set16 n v).getSeg = g.getSeg ∧ (g.set8 n b).getSeg = g.getSeg ∧
    (g.set16 n v).ip = g.ip ∧ (g.set8 n b).ip = g.ip

/-- The FLAGS image has each flag at its place and FLAGS_FIXED elsewhere; a word written to FLAGS gives each
flag its bit and nothing else (R29, R40). -/
def Obligations.FlagsImage : Prop :=
  ∀ (f : Flags) (x v : Word),
    (∀ p ∈ [(0, f.CF), (2, f.PF), (4, f.AF), (6, f.ZF), (7, f.SF), (8, f.TF), (9, f.IF), (10, f.DF),
        (11, f.OF)], (f.image x).getLsbD p.1 = p.2) ∧
    (∀ k ∈ [1, 3, 5, 12, 13, 14, 15], (f.image x).getLsbD k = x.getLsbD k) ∧
    Flags.ofWord (f.image x) = f ∧
    (∀ k ∈ [0, 2, 4, 6, 7, 8, 9, 10, 11], ((Flags.ofWord v).image x).getLsbD k = v.getLsbD k)

/-- `SetSZP_N` (R241): SF is the top bit, ZF says that the result is zero, PF that its low eight bits hold an
even number of ones; no other flag changes. -/
def Obligations.ResultFlags : Prop :=
  ∀ (w : Width) (f : Flags) (v : BitVec w.bits),
    f.szp v = { f with
      SF := v.getLsbD (w.bits - 1), ZF := decide (v = 0), PF := decide (onesLow v % 2 = 0) } ∧
    f.szp v = resultFlags f v

/-- A write of n bytes at seg:off stores byte i at offset (off + i) mod 2^16 of the segment, low byte first,
and a read takes it from there, for n = 1, 2, 4, 8 and 10 (R72, R73, R74, R75), where nothing comes from
outside between the bytes (what then happens is BusAccesses). -/
def Obligations.MemoryAccess : Prop :=
  ∀ (s : State) (seg off : Word) (a : Byte) (b : Word) (c : BitVec 32) (d : BitVec 64) (e : BitVec 80),
    (∀ t : State, t.cfg = s.cfg → t.still →
      (∀ k, k < 2 → (t.read16 seg off).extractLsb' (8 * k) 8 = t.read8 seg (off + BitVec.ofNat 16 k)) ∧
      (∀ k, k < 4 → (t.read32 seg off).extractLsb' (8 * k) 8 = t.read8 seg (off + BitVec.ofNat 16 k)) ∧
      (∀ k, k < 8 → (t.read64 seg off).extractLsb' (8 * k) 8 = t.read8 seg (off + BitVec.ofNat 16 k)) ∧
      (∀ k, k < 10 → (t.read80 seg off).extractLsb' (8 * k) 8 = t.read8 seg (off + BitVec.ofNat 16 k)) ∧
      t.read8 seg off = Memory.read t.mem ((seg.toNat * 16 + off.toNat) % 2 ^ s.cfg.physBits)) ∧
    (s.still → s.memOk = true →
      (s.write8 seg off a).read8 seg off = a ∧ SameBytes s (s.write8 seg off a) (bytesAt s.cfg seg off 1) ∧
      (s.write16 seg off b).read16 seg off = b ∧
      SameBytes s (s.write16 seg off b) (bytesAt s.cfg seg off 2) ∧
      (s.write32 seg off c).read32 seg off = c ∧
      SameBytes s (s.write32 seg off c) (bytesAt s.cfg seg off 4) ∧
      (s.write64 seg off d).read64 seg off = d ∧
      SameBytes s (s.write64 seg off d) (bytesAt s.cfg seg off 8) ∧
      (s.write80 seg off e).read80 seg off = e ∧
      SameBytes s (s.write80 seg off e) (bytesAt s.cfg seg off 10))

/-- The stack (R200): a push puts the word where SP then points, two below, and a pop takes the word at SP
and moves SP up by two; SP wraps; after a push, a pop gives the word back. -/
def Obligations.StackOperations : Prop :=
  ∀ (s : State) (v : Word), s.still → s.memOk = true →
    s.push v = { s with
      regs := { s.regs with sp := BitVec.ofInt 16 ((s.regs.sp.toNat : Int) - 2) }, mem := (s.push v).mem
      ctl := { s.ctl with stale := (s.push v).ctl.stale } } ∧
    (s.push v).mem = (s.write16 s.regs.ss (s.regs.sp - 2) v).mem ∧
    s.top = s.read16 s.regs.ss s.regs.sp ∧
    s.drop = { s with regs := { s.regs with sp := BitVec.ofNat 16 (s.regs.sp.toNat + 2) } } ∧
    (s.push v).top = v ∧ (s.push v).drop.regs = s.regs

/-- The effective address and the segment of every memory operand (R117, R118, R76, R413). -/
def Obligations.OperandPlace : Prop :=
  ∀ (s : State) (n : Bits3) (d8 : Byte) (d16 : Word),
    s.place (.reg n) = .reg n ∧
    s.place (.direct d16) = .mem (s.segment .ds) d16 ∧
    (∀ p ∈ [(EaBase.bxSi, s.regs.bx.toNat + s.regs.si.toNat, SReg.ds),
        (.bxDi, s.regs.bx.toNat + s.regs.di.toNat, .ds), (.bpSi, s.regs.bp.toNat + s.regs.si.toNat, .ss),
        (.bpDi, s.regs.bp.toNat + s.regs.di.toNat, .ss), (.si, s.regs.si.toNat, .ds),
        (.di, s.regs.di.toNat, .ds), (.bp, s.regs.bp.toNat, .ss), (.bx, s.regs.bx.toNat, .ds)],
      s.place (.base p.1) = .mem (s.segment p.2.2) (BitVec.ofNat 16 p.2.1) ∧
      s.place (.disp8 p.1 d8) = .mem (s.segment p.2.2) (BitVec.ofInt 16 (p.2.1 + d8.toInt)) ∧
      s.place (.disp16 p.1 d16) = .mem (s.segment p.2.2) (BitVec.ofNat 16 (p.2.1 + d16.toNat))) ∧
    (∀ g, s.ctl.pfx.seg = none → s.segment g = s.regs.getSeg g) ∧
    (∀ g o, s.ctl.pfx.seg = some o → s.segment g = s.regs.getSeg o)

/-! ## Data transfer -/

/-- MOV writes the source to the destination and no flag (R201, R202, R203, R204). -/
def Obligations.MovWritesDestination : Prop :=
  ∀ (s : State) (w : Width) (rm : Rm) (r : Bits3) (sr : SReg) (a : Word) (imm : BitVec w.bits),
    s.still → s.memOk = true →
    Writes (.movRm .toRm w rm r) s w (s.place rm) (s.regs.get r w) s.flags ∧
    Writes (.movRm .toReg w rm r) s w (.reg r) (s.rmRead w rm) s.flags ∧
    Writes (.movAccMem w a) s w (.reg .b000) (s.readMem (s.segment .ds) a w) s.flags ∧
    Writes (.movMemAcc w a) s w (.mem (s.segment .ds) a) (s.regs.get .b000 w) s.flags ∧
    Writes (.movRmSeg rm sr) s .word (s.place rm) (wordOf (s.regs.getSeg sr)) s.flags ∧
    Writes (.movRegImm w r imm) s w (.reg r) imm s.flags ∧
    Writes (.movRmImm w rm imm) s w (s.place rm) imm s.flags

/-- MOV and POP to a segment register, and STI, set the interrupt shadow beside their effect (R48, R203,
R210, R412, R515); MOV to CS is refused (R28). -/
def Obligations.ShadowSetters : Prop :=
  ∀ (s : State) (rm : Rm) (sr : SReg), s.still →
    (sr ≠ .cs → ∃ t, Effect (exec (.movSegRm sr rm) s) (s.setInhibit true)
      (s.regs.setSeg sr (s.rmRead .word rm)) s.flags [] t) ∧
    exec (.movSegRm .cs rm) s = .refused .csDestination ∧
    (∀ p ∈ [(Instr.popEs, SReg.es), (.popSs, .ss), (.popDs, .ds)],
      ∃ t, Effect (exec p.1 s) (s.setInhibit true)
        ({ s.regs with sp := s.regs.sp + 2 }.setSeg p.2 (s.read16 s.regs.ss s.regs.sp)) s.flags [] t) ∧
    ∃ t, Effect (exec .sti s) (s.setInhibit true) s.regs { s.flags with IF := true } [] t

/-- XLAT, LEA, LES and LDS (R205, R206, R207): both words of a pointer come from the registers as they were. -/
def Obligations.AddressLoads : Prop :=
  ∀ (s : State) (rm : Rm) (r : Bits3) (seg off : Word), s.still →
    Writes .xlat s .byte (.reg .b000)
      (s.read8 (s.segment .ds) (BitVec.ofNat 16 (s.regs.bx.toNat + (s.regs.get8 .b000).toNat))) s.flags ∧
    (s.place rm = .mem seg off →
      Writes (.lea r rm) s .word (.reg r) (wordOf off) s.flags ∧
      Changes (.les r rm) s { s.regs.set16 r (s.read16 seg off) with es := s.read16 seg (off + 2) } s.flags ∧
      Changes (.lds r rm) s { s.regs.set16 r (s.read16 seg off) with ds := s.read16 seg (off + 2) } s.flags)

/-- A register where the operand must be in memory is refused: LEA, LES, LDS, the far indirect CALL and JMP
(R150, R206, R207, R355, R364), and every 8087 instruction with a memory operand (R424). -/
def Obligations.RegisterOperandsRefused : Prop :=
  ∀ (s : State) (n r : Bits3),
    ∀ i ∈ [Instr.lea r (.reg n), .les r (.reg n), .lds r (.reg n), .callFarInd (.reg n), .jmpFarInd (.reg n)] ++
        (stMemTable (.reg n)).map (·.1) ++ (stLoadTable (.reg n)).map (·.1) ++
        (stStore16Table (.reg n)).map (·.1) ++ (stStore32Table (.reg n)).map (·.1) ++
        (stStore64Table (.reg n)).map (·.1) ++ (stStore80Table (.reg n)).map (·.1),
      exec i s = .refused .registerOperand

/-- PUSH (R208, R212, R457). A memory source is read before SP changes; PUSH SP stores the decremented SP
at LEVEL L8086, in both of its encodings, and the SP from before above it (D23). -/
def Obligations.PushStoresOperand : Prop :=
  ∀ (s : State) (rm : Rm) (r : Bits3) (v : Word) (b : Byte), s.still → s.memOk = true →
    Pushes (.pushReg r) s s.regs
      (if r = .b100 ∧ s.cfg.level = .l8086 then s.regs.sp - 2 else s.regs.get16 r) ∧
    Pushes (.pushRm rm) s s.regs
      (if rm = .reg .b100 ∧ s.cfg.level = .l8086 then s.regs.sp - 2 else s.rmRead .word rm) ∧
    Pushes .pushEs s s.regs s.regs.es ∧ Pushes .pushCs s s.regs s.regs.cs ∧
    Pushes .pushSs s s.regs s.regs.ss ∧ Pushes .pushDs s s.regs s.regs.ds ∧
    Pushes .pushf s s.regs s.flagsImage ∧ Pushes (.pushImm16 v) s s.regs v ∧
    Pushes (.pushImm8 b) s s.regs (BitVec.ofInt 16 b.toInt)

/-- POP to a general register and to R/M, whose address comes from the registers before the instruction
(R210), and POPF (R213). POP SP leaves the word popped in SP. -/
def Obligations.PopLoadsOperand : Prop :=
  ∀ (s : State) (rm : Rm) (r : Bits3), s.still → s.memOk = true →
    Changes (.popReg r) s ({ s.regs with sp := s.regs.sp + 2 }.set16 r (s.read16 s.regs.ss s.regs.sp)) s.flags ∧
    (∃ t, Effect (exec (.popRm rm) s) s
        (placeRegs { s.regs with sp := s.regs.sp + 2 } .word (s.place rm)
          (wordOf (s.read16 s.regs.ss s.regs.sp))) s.flags
        (placeBytes s.cfg .word (s.place rm)) t ∧
      t.readPlace .word (s.place rm) = wordOf (s.read16 s.regs.ss s.regs.sp)) ∧
    Changes .popf s { s.regs with sp := s.regs.sp + 2 } (Flags.ofWord (s.read16 s.regs.ss s.regs.sp))

/-- LAHF, SAHF (R214, R215) and XCHG (R216), in which both operands get the other's old value. -/
def Obligations.FlagTransferAndExchange : Prop :=
  ∀ (s : State) (w : Width) (rm : Rm) (r : Bits3), s.still → s.memOk = true →
    Writes .lahf s .byte (.reg .b100) (s.flagsImage.extractLsb' 0 8) s.flags ∧
    Changes .sahf s s.regs { s.flags with
      SF := (s.regs.get8 .b100).getLsbD 7, ZF := (s.regs.get8 .b100).getLsbD 6
      AF := (s.regs.get8 .b100).getLsbD 4, PF := (s.regs.get8 .b100).getLsbD 2
      CF := (s.regs.get8 .b100).getLsbD 0 } ∧
    (∃ t, Effect (exec (.xchgRm w rm r) s) s
        ((placeRegs s.regs w (s.place rm) (s.regs.get r w)).set r w (s.rmRead w rm)) s.flags
        (placeBytes s.cfg w (s.place rm)) t ∧
      t.readPlace w (s.place rm) = s.regs.get r w ∧ t.regs.get r w = s.rmRead w rm) ∧
    Changes (.xchgAcc r) s ({ s.regs with ax := s.regs.get16 r }.set16 r s.regs.ax) s.flags

/-- IN and OUT (R218, R219): the environment answers a read (log 13), one byte for each port, the low port first in
time, and every access is recorded (DESIGN CHOICE, log 14). No flag and no other register changes. -/
def Obligations.InOut : Prop :=
  ∀ (s : State) (w : Width) (port : Byte), s.still →
    (∀ p ∈ [(Instr.inFixed w port, BitVec.ofNat 16 port.toNat), (.inDx w, s.regs.dx)],
      ∃ v u, ReadsPorts s p.2 w v u ∧ exec p.1 s = .next { u with regs := s.regs.set .b000 w v }) ∧
    (∀ p ∈ [(Instr.outFixed w port, BitVec.ofNat 16 port.toNat), (.outDx w, s.regs.dx)],
      exec p.1 s = .next { s with io := portWrites p.2 w (s.regs.get .b000 w) ++ s.io })

/-! ## Arithmetic -/

/-- ADD and ADC in all four forms (R242, R244, R245, R246): the sum modulo 2^N, and its six flags. -/
def Obligations.AddWritesSumAndFlags : Prop :=
  ∀ (s : State) (w : Width) (rm : Rm) (r : Bits3) (imm : BitVec w.bits) (b : Byte), s.still → s.memOk = true →
    let put (c : Nat) (i : Instr) (w : Width) (p : Place) (x y : BitVec w.bits) : Prop :=
      Writes i s w p (sumOf x y c) (sumFlags s.flags x y c)
    ∀ p ∈ [(0, Instr.addRm, Instr.addAcc, Instr.addImm, Instr.addImmS),
        (s.flags.CF.toNat, .adcRm, .adcAcc, .adcImm, .adcImmS)],
      put p.1 (p.2.1 .toRm w rm r) w (s.place rm) (s.rmRead w rm) (s.regs.get r w) ∧
      put p.1 (p.2.1 .toReg w rm r) w (.reg r) (s.regs.get r w) (s.rmRead w rm) ∧
      put p.1 (p.2.2.1 w imm) w (.reg .b000) (s.regs.get .b000 w) imm ∧
      put p.1 (p.2.2.2.1 w rm imm) w (s.place rm) (s.rmRead w rm) imm ∧
      put p.1 (p.2.2.2.2 rm b) .word (s.place rm) (s.rmRead .word rm) (wordOf (BitVec.ofInt 16 b.toInt))

/-- SUB and SBB in all four forms (R243, R244, R247, R248): the difference modulo 2^N, and its six flags. CMP
in all four forms (R249): the flags of the difference, and nothing else. -/
def Obligations.SubtractWritesDifferenceAndFlags : Prop :=
  ∀ (s : State) (w : Width) (rm : Rm) (r : Bits3) (imm : BitVec w.bits) (b : Byte), s.still → s.memOk = true →
    let put (c : Nat) (i : Instr) (w : Width) (p : Place) (x y : BitVec w.bits) : Prop :=
      Writes i s w p (differenceOf x y c) (differenceFlags s.flags x y c)
    (∀ p ∈ [(0, Instr.subRm, Instr.subAcc, Instr.subImm, Instr.subImmS),
        (s.flags.CF.toNat, .sbbRm, .sbbAcc, .sbbImm, .sbbImmS)],
      put p.1 (p.2.1 .toRm w rm r) w (s.place rm) (s.rmRead w rm) (s.regs.get r w) ∧
      put p.1 (p.2.1 .toReg w rm r) w (.reg r) (s.regs.get r w) (s.rmRead w rm) ∧
      put p.1 (p.2.2.1 w imm) w (.reg .b000) (s.regs.get .b000 w) imm ∧
      put p.1 (p.2.2.2.1 w rm imm) w (s.place rm) (s.rmRead w rm) imm ∧
      put p.1 (p.2.2.2.2 rm b) .word (s.place rm) (s.rmRead .word rm) (wordOf (BitVec.ofInt 16 b.toInt))) ∧
    Changes (.cmpRm .toRm w rm r) s s.regs (differenceFlags s.flags (s.rmRead w rm) (s.regs.get r w) 0) ∧
    Changes (.cmpRm .toReg w rm r) s s.regs (differenceFlags s.flags (s.regs.get r w) (s.rmRead w rm) 0) ∧
    Changes (.cmpAcc w imm) s s.regs (differenceFlags s.flags (s.regs.get .b000 w) imm 0) ∧
    Changes (.cmpImm w rm imm) s s.regs (differenceFlags s.flags (s.rmRead w rm) imm 0) ∧
    Changes (.cmpImmS rm b) s s.regs
      (differenceFlags s.flags (s.rmRead .word rm) (wordOf (BitVec.ofInt 16 b.toInt)) 0)

/-- INC and DEC keep CF and set the other flags of adding or subtracting 1 (R250, R251); NEG is the
subtraction from 0 (R252). -/
def Obligations.IncDecNeg : Prop :=
  ∀ (s : State) (w : Width) (rm : Rm) (r : Bits3), s.still → s.memOk = true →
    let one (w : Width) : BitVec w.bits := BitVec.ofNat w.bits 1
    Writes (.incReg r) s .word (.reg r) (sumOf (s.regs.get r .word) (one .word) 0)
      { sumFlags s.flags (s.regs.get r .word) (one .word) 0 with CF := s.flags.CF } ∧
    Writes (.incRm w rm) s w (s.place rm) (sumOf (s.rmRead w rm) (one w) 0)
      { sumFlags s.flags (s.rmRead w rm) (one w) 0 with CF := s.flags.CF } ∧
    Writes (.decReg r) s .word (.reg r) (differenceOf (s.regs.get r .word) (one .word) 0)
      { differenceFlags s.flags (s.regs.get r .word) (one .word) 0 with CF := s.flags.CF } ∧
    Writes (.decRm w rm) s w (s.place rm) (differenceOf (s.rmRead w rm) (one w) 0)
      { differenceFlags s.flags (s.rmRead w rm) (one w) 0 with CF := s.flags.CF } ∧
    Writes (.neg w rm) s w (s.place rm) (differenceOf 0 (s.rmRead w rm) 0)
      (differenceFlags s.flags 0 (s.rmRead w rm) 0)

/-- MUL and IMUL (R254, R255, R450): the whole product, of numbers without sign or with; CF and OF say
whether its high half, or what the 16-bit destination loses, matters; SF, ZF, AF, PF are undefined. -/
def Obligations.MultiplyGivesProduct : Prop :=
  ∀ (s : State) (rm : Rm) (r : Bits3) (imm : Word) (b : Byte), s.still →
    let flagged (i : Instr) (g : Regs) (c : Bool) : Prop :=
      ∃ sf z a p, Changes i s g (anyStatus s.flags c sf z a p c)
    (∀ m, m = (s.regs.get8 .b000).toNat * (s.rmRead .byte rm).toNat →
      flagged (.mul .byte rm) { s.regs with ax := BitVec.ofNat 16 m } (decide (256 ≤ m))) ∧
    (∀ m, m = s.regs.ax.toNat * (s.rmRead .word rm).toNat →
      flagged (.mul .word rm)
        { s.regs with dx := BitVec.ofNat 16 (m / 65536), ax := BitVec.ofNat 16 m } (decide (65536 ≤ m))) ∧
    (∀ m, m = (s.regs.get8 .b000).toInt * (s.rmRead .byte rm).toInt →
      flagged (.imul .byte rm) { s.regs with ax := BitVec.ofInt 16 m } (decide (m < -128 ∨ 127 < m))) ∧
    (∀ m, m = s.regs.ax.toInt * (s.rmRead .word rm).toInt →
      flagged (.imul .word rm)
        { s.regs with dx := BitVec.ofInt 16 (m / 65536), ax := BitVec.ofInt 16 m }
        (decide (m < -32768 ∨ 32767 < m))) ∧
    (∀ m, m = (s.rmRead .word rm).toInt * imm.toInt →
      flagged (.imul3 r rm imm) (s.regs.set16 r (BitVec.ofInt 16 m)) (decide (m < -32768 ∨ 32767 < m))) ∧
    (∀ m, m = (s.rmRead .word rm).toInt * b.toInt →
      flagged (.imul3S r rm b) (s.regs.set16 r (BitVec.ofInt 16 m)) (decide (m < -32768 ∨ 32767 < m)))

/-- DIV and IDIV with a quotient that fits (R256, R257): quotient and remainder are the numbers q and r with
dividend = q * divisor + r, r smaller than the divisor and of the dividend's sign; the status flags are undefined.
IDIV takes the most negative quotient only where IDIV_MOST_NEGATIVE_OK. -/
def Obligations.DivideGivesQuotient : Prop :=
  ∀ (s : State) (rm : Rm) (q r : Int), s.still →
    let flagged (i : Instr) (g : Regs) : Prop :=
      ∃ o sf z a p c, Changes i s g (anyStatus s.flags o sf z a p c)
    (divides s.regs.ax.toNat (s.rmRead .byte rm).toNat q r 0 255 →
      flagged (.div .byte rm) { s.regs with ax := BitVec.ofInt 8 r ++ BitVec.ofInt 8 q }) ∧
    (divides (s.regs.dx ++ s.regs.ax).toNat (s.rmRead .word rm).toNat q r 0 65535 →
      flagged (.div .word rm) { s.regs with ax := BitVec.ofInt 16 q, dx := BitVec.ofInt 16 r }) ∧
    (divides s.regs.ax.toInt (s.rmRead .byte rm).toInt q r (leastQuotient s.cfg (-128)) 127 →
      flagged (.idiv .byte rm) { s.regs with ax := BitVec.ofInt 8 r ++ BitVec.ofInt 8 q }) ∧
    (divides (s.regs.dx ++ s.regs.ax).toInt (s.rmRead .word rm).toInt q r
        (leastQuotient s.cfg (-32768)) 32767 →
      flagged (.idiv .word rm) { s.regs with ax := BitVec.ofInt 16 q, dx := BitVec.ofInt 16 r })

/-- A division by zero, or with a quotient that does not fit, takes interrupt 0 with the IP of
DIVERR_SAVED_IP (R256, R257, R500, R503): the destination registers and the status flags are undefined in
the state it is taken from, and nothing else is changed there. -/
def Obligations.DivideErrorTakesInterrupt : Prop :=
  ∀ (s : State) (rm : Rm), s.still →
    let traps (i : Instr) (g : Word → Word → Regs) : Prop :=
      ∃ x y o sf z a p c k, exec i s = .next ({ s with
        regs := g x y, flags := anyStatus s.flags o sf z a p c, draws := k }.interrupt 0
          (if s.cfg.divErrorIp = DivErrorIp.next then s.regs.ip else s.ctl.startIp))
    let byteRegs (x _ : Word) : Regs := { s.regs with ax := x }
    let wordRegs (x y : Word) : Regs := { s.regs with ax := x, dx := y }
    ∀ q r : Int,
      (divideFails s.regs.ax.toNat (s.rmRead .byte rm).toNat q r 0 255 → traps (.div .byte rm) byteRegs) ∧
      (divideFails (s.regs.dx ++ s.regs.ax).toNat (s.rmRead .word rm).toNat q r 0 65535 →
        traps (.div .word rm) wordRegs) ∧
      (divideFails s.regs.ax.toInt (s.rmRead .byte rm).toInt q r
          (leastQuotient s.cfg (-128)) 127 → traps (.idiv .byte rm) byteRegs) ∧
      (divideFails (s.regs.dx ++ s.regs.ax).toInt (s.rmRead .word rm).toInt q r
          (leastQuotient s.cfg (-32768)) 32767 → traps (.idiv .word rm) wordRegs)

/-- CBW and CWD keep the signed value of the accumulator (R260, R261); MOVSX and MOVZX keep the byte's value,
with its sign or without (R477, R478). No flag changes. -/
def Obligations.ExtensionsKeepValue : Prop :=
  ∀ (s : State) (r : Bits3) (rm : Rm), s.still →
    Changes .cbw s { s.regs with ax := BitVec.ofInt 16 (s.regs.get8 .b000).toInt } s.flags ∧
    Changes .cwd s { s.regs with dx := if s.regs.ax.toInt < 0 then 0xFFFF else 0x0000 } s.flags ∧
    Changes (.movsx r rm) s (s.regs.set16 r (BitVec.ofInt 16 (s.rmRead .byte rm).toInt)) s.flags ∧
    Changes (.movzx r rm) s (s.regs.set16 r (BitVec.ofNat 16 (s.rmRead .byte rm).toNat)) s.flags

/-- AAA and AAS correct the digit in AL, with AH counted up or down by one (R263, R264); AAD and AAM change
between two digits and a number (R265, R266); DAA and DAS correct the low digit first, and their second test
is on the AL that the first correction left (R267, R268). The flags they leave undefined are any. -/
def Obligations.DecimalAdjustments : Prop :=
  ∀ (s : State) (al ah : Nat), al = (s.regs.get8 .b000).toNat → ah = (s.regs.get8 .b100).toNat →
    let c := decide (9 < al % 16 ∨ s.flags.AF = true)
    let put (x : Nat) : Regs := { s.regs with ax := BitVec.ofNat 16 x }
    let decimal (i : Instr) (low high : Nat) : Prop :=
      ∀ x, x = (if c then (al + low) % 256 else al) →
        ∀ d, d = decide (159 < x ∨ s.flags.CF = true) →
          ∀ y, y = (if d then (x + high) % 256 else x) →
            ∃ o, Changes i s (put (ah * 256 + y))
              { resultFlags s.flags (BitVec.ofNat 8 y) with AF := c, CF := d, OF := o }
    (∃ o sf z p, Changes .aaa s
      (put (if c then (ah + 1) % 256 * 256 + (al + 6) % 16 else ah * 256 + al % 16))
      (anyStatus s.flags o sf z c p c)) ∧
    (∃ o sf z p, Changes .aas s
      (put (if c then (ah + 255) % 256 * 256 + (al + 250) % 16 else ah * 256 + al % 16))
      (anyStatus s.flags o sf z c p c)) ∧
    (∃ o a cf, Changes .aad s (put ((ah * 10 + al) % 256))
      { resultFlags s.flags (BitVec.ofNat 8 (ah * 10 + al)) with OF := o, AF := a, CF := cf }) ∧
    (∃ o a cf, Changes .aam s (put (al / 10 * 256 + al % 10))
      { resultFlags s.flags (BitVec.ofNat 8 (al % 10)) with OF := o, AF := a, CF := cf }) ∧
    decimal .daa 0x06 0x60 ∧ decimal .das 0xFA 0xA0

/-! ## Logic, shifts and rotates -/

/-- AND, OR and XOR in their forms (R290 to R293): the bitwise result, CF and OF cleared, the flags of the
result, AF undefined. TEST sets the flags of AND and writes nothing (R295); NOT writes the complement and no
flag (R294). -/
def Obligations.LogicWritesResultAndFlags : Prop :=
  ∀ (s : State) (w : Width) (rm : Rm) (r : Bits3) (imm : BitVec w.bits), s.still → s.memOk = true →
    let put (i : Instr) (p : Place) (v : BitVec w.bits) : Prop :=
      ∃ af, Writes i s w p v (logicFlagsOf s.flags v af)
    (∀ p ∈ [(Instr.andRm, Instr.andAcc, Instr.andImm, fun x y : BitVec w.bits => x &&& y),
        (.orRm, .orAcc, .orImm, fun x y => x ||| y), (.xorRm, .xorAcc, .xorImm, fun x y => x ^^^ y)],
      put (p.1 .toRm w rm r) (s.place rm) (p.2.2.2 (s.rmRead w rm) (s.regs.get r w)) ∧
      put (p.1 .toReg w rm r) (.reg r) (p.2.2.2 (s.regs.get r w) (s.rmRead w rm)) ∧
      put (p.2.1 w imm) (.reg .b000) (p.2.2.2 (s.regs.get .b000 w) imm) ∧
      put (p.2.2.1 w rm imm) (s.place rm) (p.2.2.2 (s.rmRead w rm) imm)) ∧
    (∃ af, Changes (.testRm w rm r) s s.regs (logicFlagsOf s.flags (s.rmRead w rm &&& s.regs.get r w) af)) ∧
    (∃ af, Changes (.testAcc w imm) s s.regs (logicFlagsOf s.flags (s.regs.get .b000 w &&& imm) af)) ∧
    (∃ af, Changes (.testImm w rm imm) s s.regs (logicFlagsOf s.flags (s.rmRead w rm &&& imm) af)) ∧
    Writes (.not w rm) s w (s.place rm) (BitVec.ofInt w.bits (-1 - ((s.rmRead w rm).toNat : Int))) s.flags

/-- SHL, SHR and SAR by 1, by CL and by an immediate (R300 to R304, R320 to R322, R458): multiplied or
divided by 2^c, SAR with sign and toward minus infinity; CF is the last bit out. OF is defined for the
count 1 only, AF for none; a count of 0 writes no operand and changes no flag (D16, U1, U2; log 12). -/
def Obligations.ShiftByCount : Prop :=
  ∀ (s : State) (w : Width) (rm : Rm) (cnt : Byte),
    let x := s.rmRead w rm
    let put (i : Instr) (c : Nat) (v : BitVec w.bits) (cf of1 : Bool) : Prop :=
      (c = 0 → ShiftsNothing i s w rm) ∧
      (c ≠ 0 → s.still → s.memOk = true →
        ∃ o a, (c = 1 → o = of1) ∧ Writes i s w (s.place rm) v (shiftFlags s.flags v cf o a))
    (∀ p ∈ [(Instr.shl .one w rm, 1), (.shl .cl w rm, clCount s), (.shlImm w rm cnt, byteCount s cnt)],
      put p.1 p.2 (BitVec.ofNat w.bits (x.toNat * 2 ^ p.2))
        (decide (x.toNat * 2 ^ p.2 / 2 ^ w.bits % 2 = 1))
        (decide ((BitVec.ofNat w.bits (x.toNat * 2)).toInt ≠ x.toInt * 2))) ∧
    (∀ p ∈ [(Instr.shr .one w rm, 1), (.shr .cl w rm, clCount s), (.shrImm w rm cnt, byteCount s cnt)],
      put p.1 p.2 (BitVec.ofNat w.bits (x.toNat / 2 ^ p.2))
        (decide (x.toNat / 2 ^ (p.2 - 1) % 2 = 1)) (decide (x.toInt < 0))) ∧
    (∀ p ∈ [(Instr.sar .one w rm, 1), (.sar .cl w rm, clCount s), (.sarImm w rm cnt, byteCount s cnt)],
      put p.1 p.2 (BitVec.ofInt w.bits (x.toInt / 2 ^ p.2))
        (decide (x.toInt / 2 ^ (p.2 - 1) % 2 = 1)) false)

/-- ROL and ROR (R300 to R304, R312, R313, R458): the operand rotated by c; CF is the bit that went round
last; OF is defined for c = 1 only; no other flag changes; c = 0 writes no operand and changes no flag (D16, U2;
log 12). -/
def Obligations.RotateByCount : Prop :=
  ∀ (s : State) (w : Width) (rm : Rm) (cnt : Byte),
    let x := s.rmRead w rm
    let put (i : Instr) (c : Nat) (v : BitVec w.bits) (cf of1 : Bool) : Prop :=
      (c = 0 → ShiftsNothing i s w rm) ∧
      (c ≠ 0 → s.still → s.memOk = true →
        ∃ o, (c = 1 → o = of1) ∧ Writes i s w (s.place rm) v { s.flags with CF := cf, OF := o })
    (∀ p ∈ [(Instr.rol .one w rm, 1), (.rol .cl w rm, clCount s), (.rolImm w rm cnt, byteCount s cnt)],
      put p.1 p.2 (x.rotateLeft p.2) ((x.rotateLeft p.2).getLsbD 0)
        ((x.rotateLeft 1).getLsbD 0 ^^ (x.rotateLeft 1).msb)) ∧
    (∀ p ∈ [(Instr.ror .one w rm, 1), (.ror .cl w rm, clCount s), (.rorImm w rm cnt, byteCount s cnt)],
      put p.1 p.2 (x.rotateRight p.2) (x.rotateRight p.2).msb
        ((x.rotateRight 1).getLsbD (w.bits - 1) ^^ (x.rotateRight 1).getLsbD (w.bits - 2)))

/-- RCL and RCR (R300 to R304, R310, R311, R458): the N + 1 bits of CF and the operand rotated by c; OF is
defined for c = 1 only; no other flag changes; c = 0 writes no operand and changes no flag (D16, U2; log 12). -/
def Obligations.RotateThroughCarry : Prop :=
  ∀ (s : State) (w : Width) (rm : Rm) (cnt : Byte),
    let x := withCarry s.flags.CF (s.rmRead w rm)
    let put (i : Instr) (c : Nat) (y : BitVec (1 + w.bits)) (of1 : Bool) : Prop :=
      (c = 0 → ShiftsNothing i s w rm) ∧
      (c ≠ 0 → s.still → s.memOk = true →
        ∃ o, (c = 1 → o = of1) ∧
          Writes i s w (s.place rm) (y.setWidth w.bits) { s.flags with CF := y.msb, OF := o })
    (∀ p ∈ [(Instr.rcl .one w rm, 1), (.rcl .cl w rm, clCount s), (.rclImm w rm cnt, byteCount s cnt)],
      put p.1 p.2 (x.rotateLeft p.2)
        ((x.rotateLeft 1).msb ^^ (x.rotateLeft 1).getLsbD (w.bits - 1))) ∧
    (∀ p ∈ [(Instr.rcr .one w rm, 1), (.rcr .cl w rm, clCount s), (.rcrImm w rm cnt, byteCount s cnt)],
      put p.1 p.2 (x.rotateRight p.2)
        ((x.rotateRight 1).getLsbD (w.bits - 1) ^^ (x.rotateRight 1).getLsbD (w.bits - 2)))

/-! ## Strings -/

/-- One string operation, without a repeat prefix (R330 to R336, R452, R453). The source is at SI in DS or
the override's segment, the destination at ES:DI; the index registers move by the element's size, up for
DF = 0 and down for DF = 1. INS takes the environment's answers (log 13), and INS and OUTS of a word access the
low port first in time and are recorded so (DESIGN CHOICE, log 14). -/
def Obligations.StringOperations : Prop :=
  ∀ (s : State) (w : Width), s.still → s.memOk = true → s.ctl.pfx.rep = none →
    let src := s.readMem (s.segment .ds) s.regs.si w
    let dst := s.readMem s.regs.es s.regs.di w
    let si := stepped s w s.regs.si
    let di := stepped s w s.regs.di
    let there := bytesAt s.cfg s.regs.es s.regs.di w.bytes.toNat
    (∃ t, Effect (exec (.movs w) s) s { s.regs with si := si, di := di } s.flags there t ∧
      t.readMem s.regs.es s.regs.di w = src) ∧
    Changes (.cmps w) s { s.regs with si := si, di := di } (differenceFlags s.flags src dst 0) ∧
    Changes (.scas w) s { s.regs with di := di } (differenceFlags s.flags (s.regs.get .b000 w) dst 0) ∧
    Changes (.lods w) s { s.regs.set .b000 w src with si := si } s.flags ∧
    (∃ t, Effect (exec (.stos w) s) s { s.regs with di := di } s.flags there t ∧
      t.readMem s.regs.es s.regs.di w = s.regs.get .b000 w) ∧
    (∃ v u t, ReadsPorts s s.regs.dx w v u ∧
      Effect (exec (.ins w) s) u { s.regs with di := di } s.flags there t ∧
      t.readMem s.regs.es s.regs.di w = v) ∧
    exec (.outs w) s = .next { s with
      regs := { s.regs with si := si }, io := portWrites s.regs.dx w src ++ s.io }

/-- The repeat prefixes (R339, R340): nothing for CX = 0; else one operation and CX counted down; then the
instruction is over when CX is 0, or when a comparison's ZF does not match the prefix; else it stays under
way, with IP at its first prefix for an interrupt that comes between. -/
def Obligations.Repetition : Prop :=
  ∀ (s : State) (p : Rep), s.ctl.pfx.rep = some p →
    ∀ i, isString i = true →
      (s.regs.cx = 0 → exec i s = .next s) ∧
      (s.regs.cx ≠ 0 → ∃ u, exec i { s with ctl := { s.ctl with pfx := { s.ctl.pfx with rep := none } } } = .next u ∧
        let done : State := { u with
          regs := { u.regs with cx := s.regs.cx - 1 }, ctl := { s.ctl with stale := u.ctl.stale } }
        let ended : Prop := s.regs.cx = 1 ∨
          ((∃ w, i = .cmps w ∨ i = .scas w) ∧
            (p = .rep ∧ u.flags.ZF = false ∨ p = .repne ∧ u.flags.ZF = true))
        (ended → exec i s = .next done) ∧
        (¬ended → exec i s = .next { done with
          regs := { done.regs with ip := s.ctl.startIp }
          ctl := { done.ctl with resume := some ⟨i, s.regs.ip⟩ } }))

/-! ## Control transfer -/

/-- CALL (R352 to R355): the return address is pushed, for a far call CS above it; the target is relative to
the next instruction, or comes from the operand, which is read before the push. What was prefetched is
discarded after the push, so nothing of it is left (R95, R552). A register form of the far call is refused
(RegisterOperandsRefused). -/
def Obligations.CallPushesReturnAddress : Prop :=
  ∀ (s : State) (rm : Rm) (d o g seg off : Word), s.still → s.memOk = true →
    Calls (.callNear d) s { s.regs with ip := BitVec.ofNat 16 (s.regs.ip.toNat + d.toNat) } s.regs.ip ∧
    Calls (.callInd rm) s { s.regs with ip := s.rmRead .word rm } s.regs.ip ∧
    CallsFar (.callFar o g) s { s.regs with cs := g, ip := o } s.regs.cs s.regs.ip ∧
    (s.place rm = .mem seg off →
      CallsFar (.callFarInd rm) s
        { s.regs with cs := s.read16 seg (off + 2), ip := s.read16 seg off } s.regs.cs s.regs.ip)

/-- RET (R356 to R359): IP, for a far return CS after it, from the stack; then SP moves up by the pop value.
JMP (R360 to R364): a displacement is signed and counts from the next instruction (R351). What was prefetched
is discarded (R552). -/
def Obligations.ReturnAndJump : Prop :=
  ∀ (s : State) (rm : Rm) (b : Byte) (d n o g seg off : Word), s.still →
    let word (k : Word) : Word := s.read16 s.regs.ss (s.regs.sp + k)
    Jumps .ret s { s.regs with ip := word 0, sp := s.regs.sp + 2 } s.flags ∧
    Jumps (.retPop n) s { s.regs with ip := word 0, sp := s.regs.sp + 2 + n } s.flags ∧
    Jumps .retFar s { s.regs with ip := word 0, cs := word 2, sp := s.regs.sp + 4 } s.flags ∧
    Jumps (.retFarPop n) s { s.regs with ip := word 0, cs := word 2, sp := s.regs.sp + 4 + n } s.flags ∧
    Jumps (.jmpNear d) s { s.regs with ip := BitVec.ofInt 16 (s.regs.ip.toNat + d.toInt) } s.flags ∧
    Jumps (.jmpShort b) s { s.regs with ip := BitVec.ofInt 16 (s.regs.ip.toNat + b.toInt) } s.flags ∧
    Jumps (.jmpFar o g) s { s.regs with cs := g, ip := o } s.flags ∧
    Jumps (.jmpInd rm) s { s.regs with ip := s.rmRead .word rm } s.flags ∧
    (s.place rm = .mem seg off →
      Jumps (.jmpFarInd rm) s { s.regs with cs := s.read16 seg (off + 2), ip := s.read16 seg off } s.flags)

/-- The conditional jumps (R143, R366) jump from the next instruction when their condition holds, and do
nothing when not, in particular discard nothing (R552); SET(condition) (R143, R480) writes 1 when it holds and 0 when not, and changes no flag. -/
def Obligations.ConditionalJumpsAndSets : Prop :=
  ∀ (s : State) (b : Byte) (rm : Rm),
    (∀ p ∈ jccTable s.flags b,
      (p.2 → Jumps p.1 s { s.regs with ip := BitVec.ofInt 16 (s.regs.ip.toNat + b.toInt) } s.flags) ∧
      (¬p.2 → exec p.1 s = .next s)) ∧
    (s.still → s.memOk = true → ∀ p ∈ setccTable s.flags rm,
      (p.2 → Writes p.1 s .byte (s.place rm) 1#8 s.flags) ∧
      (¬p.2 → Writes p.1 s .byte (s.place rm) 0#8 s.flags))

/-- JCXZ tests CX and leaves it (R367); LOOP, LOOPE and LOOPNE count CX down and jump while it is not zero
and their condition on ZF holds; no flag changes (R368, R369, R370). What was prefetched is discarded when
the jump is taken (R552). -/
def Obligations.LoopsCountDown : Prop :=
  ∀ (s : State) (b : Byte),
    let target := BitVec.ofInt 16 (s.regs.ip.toNat + b.toInt)
    (s.regs.cx = 0 → Jumps (.jcxz b) s { s.regs with ip := target } s.flags) ∧
    (s.regs.cx ≠ 0 → exec (.jcxz b) s = .next s) ∧
    ∀ p ∈ [(Instr.loop b, true), (.loope b, s.flags.ZF), (.loopne b, !s.flags.ZF)],
      let counted : Regs := { s.regs with cx := BitVec.ofInt 16 ((s.regs.cx.toNat : Int) - 1) }
      (s.regs.cx ≠ 1 → p.2 = true → Jumps p.1 s { counted with ip := target } s.flags) ∧
      (s.regs.cx = 1 ∨ p.2 = false → Changes p.1 s counted s.flags)

/-! ## Processor control -/

/-- The flag instructions (R401 to R406), NOP (R411), ESC to no 8087 instruction (R409), HLT (R407) and WAIT
(R408), which waits at its own first byte (log 18). -/
def Obligations.ProcessorControl : Prop :=
  ∀ (s : State) (x1 x2 : Bits3) (rm : Rm), s.still →
    Changes .clc s s.regs { s.flags with CF := false } ∧ Changes .stc s s.regs { s.flags with CF := true } ∧
    Changes .cmc s s.regs { s.flags with CF := !s.flags.CF } ∧
    Changes .cld s s.regs { s.flags with DF := false } ∧ Changes .std s s.regs { s.flags with DF := true } ∧
    Changes .cli s s.regs { s.flags with IF := false } ∧
    exec .nop s = .next s ∧ exec (.esc x1 x2 rm) s = .next s ∧
    exec .hlt s = .next { s with ctl := { s.ctl with run := .halted } } ∧
    (s.env.testReady = true ∨ s.cfg.has8087 = false → exec .wait s = .next s) ∧
    (s.env.testReady = false → s.cfg.has8087 = true →
      exec .wait s = .next { s with
        regs := { s.regs with ip := s.ctl.startIp }, ctl := { s.ctl with run := .waiting s.regs.ip } })

/-- A prefix is noted in the prefix state and nothing else changes; a second one of its class before one
opcode is refused (R49, R126, R338, R410, R413). -/
def Obligations.PrefixesNoted : Prop :=
  ∀ s : State,
    (∀ p ∈ [(Instr.rep, Rep.rep), (.repne, .repne)],
      (s.ctl.pfx.rep = none →
        exec p.1 s = .next { s with ctl := { s.ctl with pfx := { s.ctl.pfx with rep := some p.2 } } }) ∧
      (s.ctl.pfx.rep ≠ none → exec p.1 s = .refused .duplicatePrefix)) ∧
    (∀ p ∈ [(Instr.segEs, SReg.es), (.segCs, .cs), (.segSs, .ss), (.segDs, .ds)],
      (s.ctl.pfx.seg = none →
        exec p.1 s = .next { s with ctl := { s.ctl with pfx := { s.ctl.pfx with seg := some p.2 } } }) ∧
      (s.ctl.pfx.seg ≠ none → exec p.1 s = .refused .duplicatePrefix)) ∧
    (s.ctl.pfx.lock = false →
      exec .lock s = .next { s with ctl := { s.ctl with pfx := { s.ctl.pfx with lock := true } } }) ∧
    (s.ctl.pfx.lock = true → exec .lock s = .refused .duplicatePrefix)

/-! ## 80286 and 80386 -/

/-- PUSHA stores the eight registers with the original SP among them; POPA loads them and discards the word
in the place of SP; POPA after PUSHA gives every register back (R455, R456). -/
def Obligations.PushaPopa : Prop :=
  ∀ s : State, s.still →
    let word (t : State) (k : Nat) : Word := t.read16 s.regs.ss (s.regs.sp + BitVec.ofNat 16 k)
    (s.memOk = true → ∃ t, Effect (exec .pusha s) s { s.regs with sp := s.regs.sp - 16 } s.flags
        (bytesAt s.cfg s.regs.ss (s.regs.sp - 16) 16) t ∧
      word t 65534 = s.regs.ax ∧ word t 65532 = s.regs.cx ∧ word t 65530 = s.regs.dx ∧
      word t 65528 = s.regs.bx ∧ word t 65526 = s.regs.sp ∧ word t 65524 = s.regs.bp ∧
      word t 65522 = s.regs.si ∧ word t 65520 = s.regs.di ∧
      Changes .popa t s.regs s.flags) ∧
    Changes .popa s { s.regs with
      di := word s 0, si := word s 2, bp := word s 4, bx := word s 8, dx := word s 10, cx := word s 12
      ax := word s 14, sp := s.regs.sp + 16 } s.flags

/-- BSF and BSR (R470): the position of the lowest or highest bit set, and ZF; for a source of 0 the
destination is left and ZF is BSX_ZF_WHEN_ZERO. No other flag changes. -/
def Obligations.BitScanFindsBit : Prop :=
  ∀ (s : State) (r : Bits3) (rm : Rm) (k : Nat), s.still →
    let v := s.rmRead .word rm
    (v = 0 → Changes (.bsf r rm) s s.regs { s.flags with ZF := s.cfg.bsxZfWhenZero } ∧
      Changes (.bsr r rm) s s.regs { s.flags with ZF := s.cfg.bsxZfWhenZero }) ∧
    (v.getLsbD k = true → (∀ m, m < k → v.getLsbD m = false) →
      Changes (.bsf r rm) s (s.regs.set16 r (BitVec.ofNat 16 k)) { s.flags with ZF := !s.cfg.bsxZfWhenZero }) ∧
    (v.getLsbD k = true → (∀ m, k < m → v.getLsbD m = false) →
      Changes (.bsr r rm) s (s.regs.set16 r (BitVec.ofNat 16 k)) { s.flags with ZF := !s.cfg.bsxZfWhenZero })

/-- BT, BTS, BTR and BTC (R472 to R476): CF is the bit at the position modulo 16; BTS sets that bit, BTR
clears it, BTC inverts it, and every other bit of the operand stays; no other flag changes. -/
def Obligations.BitTestAndChange : Prop :=
  ∀ (s : State) (rm : Rm) (r : Bits3) (b : Byte), s.still → s.memOk = true →
    let v := s.rmRead .word rm
    ∀ q ∈ [((s.regs.get16 r).toNat, Instr.bt rm r, Instr.bts rm r, Instr.btr rm r, Instr.btc rm r),
        (b.toNat, .btImm rm b, .btsImm rm b, .btrImm rm b, .btcImm rm b)],
      let k := q.1 % 16
      let f := { s.flags with CF := v.getLsbD k }
      let put (i : Instr) (new : Bool) : Prop :=
        ∃ x, Writes i s .word (s.place rm) x f ∧
          ∀ m, m < 16 → x.getLsbD m = if m = k then new else v.getLsbD m
      Changes q.2.1 s s.regs f ∧ put q.2.2.1 true ∧ put q.2.2.2.1 false ∧ put q.2.2.2.2 (!v.getLsbD k)

/-- SHLD and SHRD (R482, R483, R484): nothing for a count of 0; for 1 to 16 the destination shifted with the
source's bits coming in, CF the last bit out, OF and AF undefined; for 17 to 31 the destination and the six
status flags are undefined (D42). -/
def Obligations.DoubleShiftByCount : Prop :=
  ∀ (s : State) (rm : Rm) (r : Bits3) (cnt : Byte), s.still → s.memOk = true →
    let d := (s.rmRead .word rm).toNat
    let v := (s.regs.get16 r).toNat
    let put (i : Instr) (c x : Nat) (cf : Bool) : Prop :=
      (c = 0 → exec i s = .next s) ∧
      (1 ≤ c → c ≤ 16 → ∃ o a, Writes i s .word (s.place rm) (wordOf (BitVec.ofNat 16 x))
        { resultFlags s.flags (wordOf (BitVec.ofNat 16 x)) with CF := cf, OF := o, AF := a }) ∧
      (17 ≤ c → ∃ x o sf z a p c,
        Writes i s .word (s.place rm) x (anyStatus s.flags o sf z a p c))
    (∀ q ∈ [(Instr.shldImm rm r cnt, cnt.toNat % 32), (.shldCl rm r, (s.regs.get8 .b001).toNat % 32)],
      put q.1 q.2 ((d * 65536 + v) * 2 ^ q.2 / 65536) (decide (d * 2 ^ q.2 / 65536 % 2 = 1))) ∧
    (∀ q ∈ [(Instr.shrdImm rm r cnt, cnt.toNat % 32), (.shrdCl rm r, (s.regs.get8 .b001).toNat % 32)],
      put q.1 q.2 ((v * 65536 + d) / 2 ^ q.2) (decide (d / 2 ^ (q.2 - 1) % 2 = 1)))

/-! ## 8087 -/

/-- The 8087 arithmetic (R420, R422, R423, R426 to R433): destination op source. With stack operands; the
form without operands, which writes ST(1) and pops; with an operand in memory, ST(0) op its value, which is
read after the word that ESC reads there (R409, R420; log 31). An empty operand register is refused, unless
the reset has come before that (R540; log 15). -/
def Obligations.FpuArithmetic : Prop :=
  ∀ (s : State) (n : Bits3) (rm : Rm) (seg off : Word) (x y : TReal),
    (∀ p ∈ stArithTable n,
      (s.st p.2.2.1 = some x → s.st p.2.2.2 = some y →
        exec p.1 s = .next { s with fpu := s.fpu.set p.2.2.1 (some (p.2.1 x y)) }) ∧
      ((s.st p.2.2.1 = none ∨ s.st p.2.2.2 = none) → RefusedAt p.1 s s .fpuStackEmpty)) ∧
    (∀ p ∈ stPopTable,
      (s.st 1 = some x → s.st 0 = some y →
        exec p.1 s = .next { s with fpu := poppedStack (s.fpu.set 1 (some (p.2 x y))) }) ∧
      ((s.st 1 = none ∨ s.st 0 = none) → RefusedAt p.1 s s .fpuStackEmpty)) ∧
    (s.place rm = .mem seg off → ∀ p ∈ stMemTable rm,
      let u := s.accesses (2 + p.2.2.1)
      (s.st 0 = some x →
        exec p.1 s = .next { u with
          fpu := s.fpu.set 0 (some (p.2.1 x (p.2.2.2 (s.accesses 2) seg off))) }) ∧
      (s.st 0 = none → RefusedAt p.1 s u .fpuStackEmpty))

/-- The 8087 loads push their operand (R420, R434, R437, R440), which they read after the word that ESC reads
there (R409; log 31); FLD ST(i) reads it before the push. With no empty register the push is refused, unless
the reset has come before that (R540; log 15). -/
def Obligations.FpuLoadPushes : Prop :=
  ∀ (s : State) (rm : Rm) (n : Bits3) (seg off : Word) (x : TReal),
    (s.place rm = .mem seg off → ∀ p ∈ stLoadTable rm,
      let u := s.accesses (2 + p.2.1)
      (s.fpu.getLast? = some none →
        exec p.1 s = .next { u with fpu := some (p.2.2 (s.accesses 2) seg off) :: s.fpu.dropLast }) ∧
      ((∀ e ∈ s.fpu, e ≠ none) → RefusedAt p.1 s u .fpuStackFull)) ∧
    (s.st n.bits.toNat = some x → s.fpu.getLast? = some none →
      exec (.fldSti n) s = .next { s with fpu := some x :: s.fpu.dropLast }) ∧
    (s.st n.bits.toNat = some x → (∀ e ∈ s.fpu, e ≠ none) → RefusedAt (.fldSti n) s s .fpuStackFull) ∧
    (s.st n.bits.toNat = none → RefusedAt (.fldSti n) s s .fpuStackEmpty)

/-- The 8087 stores (R435, R436, R438, R439, R441): the value of ST(0) in the operand's format at the
operand's bytes, low byte first, after the word that ESC reads there (R409; log 31), or into ST(i); the storing
forms with P then pop. An empty ST(0) is refused, and so is a register the stack does not have (log 21), unless
the reset has come before that (R540; log 15). -/
def Obligations.FpuStoreWrites : Prop :=
  ∀ (s : State) (rm : Rm) (n : Bits3) (seg off : Word) (x : TReal),
    let after (pop : Bool) : List (Option TReal) := if pop then poppedStack s.fpu else s.fpu
    let u := s.accesses 2
    (s.place rm = .mem seg off → s.st 0 = some x →
      (∀ p ∈ stStore16Table rm,
        exec p.1 s = .next { u.write16 seg off (p.2.1 x) with fpu := after p.2.2 }) ∧
      (∀ p ∈ stStore32Table rm,
        exec p.1 s = .next { u.write32 seg off (p.2.1 x) with fpu := after p.2.2 }) ∧
      (∀ p ∈ stStore64Table rm,
        exec p.1 s = .next { u.write64 seg off (p.2.1 x) with fpu := after p.2.2 }) ∧
      (∀ p ∈ stStore80Table rm,
        exec p.1 s = .next { u.write80 seg off (p.2.1 x) with fpu := after p.2.2 })) ∧
    (s.still → s.memOk = true → s.place rm = .mem seg off → s.st 0 = some x →
      (∀ p ∈ stStore16Table rm, ∃ t, FpuEffect (exec p.1 s) s (after p.2.2) (bytesAt s.cfg seg off 2) t ∧
        t.read16 seg off = p.2.1 x) ∧
      (∀ p ∈ stStore32Table rm, ∃ t, FpuEffect (exec p.1 s) s (after p.2.2) (bytesAt s.cfg seg off 4) t ∧
        t.read32 seg off = p.2.1 x) ∧
      (∀ p ∈ stStore64Table rm, ∃ t, FpuEffect (exec p.1 s) s (after p.2.2) (bytesAt s.cfg seg off 8) t ∧
        t.read64 seg off = p.2.1 x) ∧
      (∀ p ∈ stStore80Table rm, ∃ t, FpuEffect (exec p.1 s) s (after p.2.2) (bytesAt s.cfg seg off 10) t ∧
        t.read80 seg off = p.2.1 x)) ∧
    (s.place rm = .mem seg off → s.st 0 = none →
      ∀ i ∈ (stStore16Table rm).map (·.1) ++ (stStore32Table rm).map (·.1) ++
        (stStore64Table rm).map (·.1) ++ (stStore80Table rm).map (·.1), RefusedAt i s u .fpuStackEmpty) ∧
    (s.st 0 = some x → n.bits.toNat < s.fpu.length →
      exec (.fstSti n) s = .next { s with fpu := s.fpu.set n.bits.toNat (some x) } ∧
      exec (.fstpSti n) s = .next { s with fpu := poppedStack (s.fpu.set n.bits.toNat (some x)) }) ∧
    (s.st 0 = some x → s.fpu.length ≤ n.bits.toNat →
      RefusedAt (.fstSti n) s s .fpuNoRegister ∧ RefusedAt (.fstpSti n) s s .fpuNoRegister) ∧
    (s.st 0 = none →
      RefusedAt (.fstSti n) s s .fpuStackEmpty ∧ RefusedAt (.fstpSti n) s s .fpuStackEmpty)
end

