-- ==== Sys2Proof/Laws/State.lean ====
section
/-! SUPPORT. One lemma per field per update of the state; true by `rfl` where the update is a record update. -/

namespace Sys2Proof.Machine

@[simp] theorem State.setIp_regs (s : State) (v : Word) :
    (s.setIp v).regs = { s.regs with ip := v } := rfl
@[simp] theorem State.setIp_flags (s : State) (v : Word) :
    (s.setIp v).flags = s.flags := rfl
@[simp] theorem State.setIp_ctl (s : State) (v : Word) :
    (s.setIp v).ctl = s.ctl := rfl
@[simp] theorem State.setIp_env (s : State) (v : Word) :
    (s.setIp v).env = s.env := rfl
@[simp] theorem State.setIp_mem (s : State) (v : Word) :
    (s.setIp v).mem = s.mem := rfl
@[simp] theorem State.setIp_io (s : State) (v : Word) :
    (s.setIp v).io = s.io := rfl
@[simp] theorem State.setIp_fpu (s : State) (v : Word) :
    (s.setIp v).fpu = s.fpu := rfl
@[simp] theorem State.setIp_draws (s : State) (v : Word) :
    (s.setIp v).draws = s.draws := rfl
@[simp] theorem State.setIp_cfg (s : State) (v : Word) :
    (s.setIp v).cfg = s.cfg := rfl

@[simp] theorem State.setSp_regs (s : State) (v : Word) :
    (s.setSp v).regs = { s.regs with sp := v } := rfl
@[simp] theorem State.setSp_flags (s : State) (v : Word) :
    (s.setSp v).flags = s.flags := rfl
@[simp] theorem State.setSp_ctl (s : State) (v : Word) :
    (s.setSp v).ctl = s.ctl := rfl
@[simp] theorem State.setSp_env (s : State) (v : Word) :
    (s.setSp v).env = s.env := rfl
@[simp] theorem State.setSp_mem (s : State) (v : Word) :
    (s.setSp v).mem = s.mem := rfl
@[simp] theorem State.setSp_io (s : State) (v : Word) :
    (s.setSp v).io = s.io := rfl
@[simp] theorem State.setSp_fpu (s : State) (v : Word) :
    (s.setSp v).fpu = s.fpu := rfl
@[simp] theorem State.setSp_draws (s : State) (v : Word) :
    (s.setSp v).draws = s.draws := rfl
@[simp] theorem State.setSp_cfg (s : State) (v : Word) :
    (s.setSp v).cfg = s.cfg := rfl

@[simp] theorem State.setAx_regs (s : State) (v : Word) :
    (s.setAx v).regs = { s.regs with ax := v } := rfl
@[simp] theorem State.setAx_flags (s : State) (v : Word) :
    (s.setAx v).flags = s.flags := rfl
@[simp] theorem State.setAx_ctl (s : State) (v : Word) :
    (s.setAx v).ctl = s.ctl := rfl
@[simp] theorem State.setAx_env (s : State) (v : Word) :
    (s.setAx v).env = s.env := rfl
@[simp] theorem State.setAx_mem (s : State) (v : Word) :
    (s.setAx v).mem = s.mem := rfl
@[simp] theorem State.setAx_io (s : State) (v : Word) :
    (s.setAx v).io = s.io := rfl
@[simp] theorem State.setAx_fpu (s : State) (v : Word) :
    (s.setAx v).fpu = s.fpu := rfl
@[simp] theorem State.setAx_draws (s : State) (v : Word) :
    (s.setAx v).draws = s.draws := rfl
@[simp] theorem State.setAx_cfg (s : State) (v : Word) :
    (s.setAx v).cfg = s.cfg := rfl

@[simp] theorem State.setCx_regs (s : State) (v : Word) :
    (s.setCx v).regs = { s.regs with cx := v } := rfl
@[simp] theorem State.setCx_flags (s : State) (v : Word) :
    (s.setCx v).flags = s.flags := rfl
@[simp] theorem State.setCx_ctl (s : State) (v : Word) :
    (s.setCx v).ctl = s.ctl := rfl
@[simp] theorem State.setCx_env (s : State) (v : Word) :
    (s.setCx v).env = s.env := rfl
@[simp] theorem State.setCx_mem (s : State) (v : Word) :
    (s.setCx v).mem = s.mem := rfl
@[simp] theorem State.setCx_io (s : State) (v : Word) :
    (s.setCx v).io = s.io := rfl
@[simp] theorem State.setCx_fpu (s : State) (v : Word) :
    (s.setCx v).fpu = s.fpu := rfl
@[simp] theorem State.setCx_draws (s : State) (v : Word) :
    (s.setCx v).draws = s.draws := rfl
@[simp] theorem State.setCx_cfg (s : State) (v : Word) :
    (s.setCx v).cfg = s.cfg := rfl

@[simp] theorem State.setDx_regs (s : State) (v : Word) :
    (s.setDx v).regs = { s.regs with dx := v } := rfl
@[simp] theorem State.setDx_flags (s : State) (v : Word) :
    (s.setDx v).flags = s.flags := rfl
@[simp] theorem State.setDx_ctl (s : State) (v : Word) :
    (s.setDx v).ctl = s.ctl := rfl
@[simp] theorem State.setDx_env (s : State) (v : Word) :
    (s.setDx v).env = s.env := rfl
@[simp] theorem State.setDx_mem (s : State) (v : Word) :
    (s.setDx v).mem = s.mem := rfl
@[simp] theorem State.setDx_io (s : State) (v : Word) :
    (s.setDx v).io = s.io := rfl
@[simp] theorem State.setDx_fpu (s : State) (v : Word) :
    (s.setDx v).fpu = s.fpu := rfl
@[simp] theorem State.setDx_draws (s : State) (v : Word) :
    (s.setDx v).draws = s.draws := rfl
@[simp] theorem State.setDx_cfg (s : State) (v : Word) :
    (s.setDx v).cfg = s.cfg := rfl

@[simp] theorem State.setCsIp_regs (s : State) (seg off : Word) :
    (s.setCsIp seg off).regs = { s.regs with cs := seg, ip := off } := rfl
@[simp] theorem State.setCsIp_flags (s : State) (seg off : Word) :
    (s.setCsIp seg off).flags = s.flags := rfl
@[simp] theorem State.setCsIp_ctl (s : State) (seg off : Word) :
    (s.setCsIp seg off).ctl = s.ctl := rfl
@[simp] theorem State.setCsIp_env (s : State) (seg off : Word) :
    (s.setCsIp seg off).env = s.env := rfl
@[simp] theorem State.setCsIp_mem (s : State) (seg off : Word) :
    (s.setCsIp seg off).mem = s.mem := rfl
@[simp] theorem State.setCsIp_io (s : State) (seg off : Word) :
    (s.setCsIp seg off).io = s.io := rfl
@[simp] theorem State.setCsIp_fpu (s : State) (seg off : Word) :
    (s.setCsIp seg off).fpu = s.fpu := rfl
@[simp] theorem State.setCsIp_draws (s : State) (seg off : Word) :
    (s.setCsIp seg off).draws = s.draws := rfl
@[simp] theorem State.setCsIp_cfg (s : State) (seg off : Word) :
    (s.setCsIp seg off).cfg = s.cfg := rfl

@[simp] theorem State.setReg_regs (s : State) (w : Width) (n : Bits3) (v : BitVec w.bits) :
    (s.setReg w n v).regs = s.regs.set n w v := rfl
@[simp] theorem State.setReg_flags (s : State) (w : Width) (n : Bits3) (v : BitVec w.bits) :
    (s.setReg w n v).flags = s.flags := rfl
@[simp] theorem State.setReg_ctl (s : State) (w : Width) (n : Bits3) (v : BitVec w.bits) :
    (s.setReg w n v).ctl = s.ctl := rfl
@[simp] theorem State.setReg_env (s : State) (w : Width) (n : Bits3) (v : BitVec w.bits) :
    (s.setReg w n v).env = s.env := rfl
@[simp] theorem State.setReg_mem (s : State) (w : Width) (n : Bits3) (v : BitVec w.bits) :
    (s.setReg w n v).mem = s.mem := rfl
@[simp] theorem State.setReg_io (s : State) (w : Width) (n : Bits3) (v : BitVec w.bits) :
    (s.setReg w n v).io = s.io := rfl
@[simp] theorem State.setReg_fpu (s : State) (w : Width) (n : Bits3) (v : BitVec w.bits) :
    (s.setReg w n v).fpu = s.fpu := rfl
@[simp] theorem State.setReg_draws (s : State) (w : Width) (n : Bits3) (v : BitVec w.bits) :
    (s.setReg w n v).draws = s.draws := rfl
@[simp] theorem State.setReg_cfg (s : State) (w : Width) (n : Bits3) (v : BitVec w.bits) :
    (s.setReg w n v).cfg = s.cfg := rfl

@[simp] theorem State.setReg16_regs (s : State) (n : Bits3) (v : Word) :
    (s.setReg16 n v).regs = s.regs.set16 n v := rfl
@[simp] theorem State.setReg16_flags (s : State) (n : Bits3) (v : Word) :
    (s.setReg16 n v).flags = s.flags := rfl
@[simp] theorem State.setReg16_ctl (s : State) (n : Bits3) (v : Word) :
    (s.setReg16 n v).ctl = s.ctl := rfl
@[simp] theorem State.setReg16_env (s : State) (n : Bits3) (v : Word) :
    (s.setReg16 n v).env = s.env := rfl
@[simp] theorem State.setReg16_mem (s : State) (n : Bits3) (v : Word) :
    (s.setReg16 n v).mem = s.mem := rfl
@[simp] theorem State.setReg16_io (s : State) (n : Bits3) (v : Word) :
    (s.setReg16 n v).io = s.io := rfl
@[simp] theorem State.setReg16_fpu (s : State) (n : Bits3) (v : Word) :
    (s.setReg16 n v).fpu = s.fpu := rfl
@[simp] theorem State.setReg16_draws (s : State) (n : Bits3) (v : Word) :
    (s.setReg16 n v).draws = s.draws := rfl
@[simp] theorem State.setReg16_cfg (s : State) (n : Bits3) (v : Word) :
    (s.setReg16 n v).cfg = s.cfg := rfl

@[simp] theorem State.setSeg_regs (s : State) (n : SReg) (v : Word) :
    (s.setSeg n v).regs = s.regs.setSeg n v := rfl
@[simp] theorem State.setSeg_flags (s : State) (n : SReg) (v : Word) :
    (s.setSeg n v).flags = s.flags := rfl
@[simp] theorem State.setSeg_ctl (s : State) (n : SReg) (v : Word) :
    (s.setSeg n v).ctl = s.ctl := rfl
@[simp] theorem State.setSeg_env (s : State) (n : SReg) (v : Word) :
    (s.setSeg n v).env = s.env := rfl
@[simp] theorem State.setSeg_mem (s : State) (n : SReg) (v : Word) :
    (s.setSeg n v).mem = s.mem := rfl
@[simp] theorem State.setSeg_io (s : State) (n : SReg) (v : Word) :
    (s.setSeg n v).io = s.io := rfl
@[simp] theorem State.setSeg_fpu (s : State) (n : SReg) (v : Word) :
    (s.setSeg n v).fpu = s.fpu := rfl
@[simp] theorem State.setSeg_draws (s : State) (n : SReg) (v : Word) :
    (s.setSeg n v).draws = s.draws := rfl
@[simp] theorem State.setSeg_cfg (s : State) (n : SReg) (v : Word) :
    (s.setSeg n v).cfg = s.cfg := rfl

@[simp] theorem State.setAcc_regs (s : State) (w : Width) (v : BitVec w.bits) :
    (s.setAcc w v).regs = s.regs.set .b000 w v := rfl
@[simp] theorem State.setAcc_flags (s : State) (w : Width) (v : BitVec w.bits) :
    (s.setAcc w v).flags = s.flags := rfl
@[simp] theorem State.setAcc_ctl (s : State) (w : Width) (v : BitVec w.bits) :
    (s.setAcc w v).ctl = s.ctl := rfl
@[simp] theorem State.setAcc_env (s : State) (w : Width) (v : BitVec w.bits) :
    (s.setAcc w v).env = s.env := rfl
@[simp] theorem State.setAcc_mem (s : State) (w : Width) (v : BitVec w.bits) :
    (s.setAcc w v).mem = s.mem := rfl
@[simp] theorem State.setAcc_io (s : State) (w : Width) (v : BitVec w.bits) :
    (s.setAcc w v).io = s.io := rfl
@[simp] theorem State.setAcc_fpu (s : State) (w : Width) (v : BitVec w.bits) :
    (s.setAcc w v).fpu = s.fpu := rfl
@[simp] theorem State.setAcc_draws (s : State) (w : Width) (v : BitVec w.bits) :
    (s.setAcc w v).draws = s.draws := rfl
@[simp] theorem State.setAcc_cfg (s : State) (w : Width) (v : BitVec w.bits) :
    (s.setAcc w v).cfg = s.cfg := rfl

@[simp] theorem State.stepSi_regs (s : State) (w : Width) :
    (s.stepSi w).regs = { s.regs with si := s.regs.si + s.indexStep w } := rfl
@[simp] theorem State.stepSi_flags (s : State) (w : Width) :
    (s.stepSi w).flags = s.flags := rfl
@[simp] theorem State.stepSi_ctl (s : State) (w : Width) :
    (s.stepSi w).ctl = s.ctl := rfl
@[simp] theorem State.stepSi_env (s : State) (w : Width) :
    (s.stepSi w).env = s.env := rfl
@[simp] theorem State.stepSi_mem (s : State) (w : Width) :
    (s.stepSi w).mem = s.mem := rfl
@[simp] theorem State.stepSi_io (s : State) (w : Width) :
    (s.stepSi w).io = s.io := rfl
@[simp] theorem State.stepSi_fpu (s : State) (w : Width) :
    (s.stepSi w).fpu = s.fpu := rfl
@[simp] theorem State.stepSi_draws (s : State) (w : Width) :
    (s.stepSi w).draws = s.draws := rfl
@[simp] theorem State.stepSi_cfg (s : State) (w : Width) :
    (s.stepSi w).cfg = s.cfg := rfl

@[simp] theorem State.stepDi_regs (s : State) (w : Width) :
    (s.stepDi w).regs = { s.regs with di := s.regs.di + s.indexStep w } := rfl
@[simp] theorem State.stepDi_flags (s : State) (w : Width) :
    (s.stepDi w).flags = s.flags := rfl
@[simp] theorem State.stepDi_ctl (s : State) (w : Width) :
    (s.stepDi w).ctl = s.ctl := rfl
@[simp] theorem State.stepDi_env (s : State) (w : Width) :
    (s.stepDi w).env = s.env := rfl
@[simp] theorem State.stepDi_mem (s : State) (w : Width) :
    (s.stepDi w).mem = s.mem := rfl
@[simp] theorem State.stepDi_io (s : State) (w : Width) :
    (s.stepDi w).io = s.io := rfl
@[simp] theorem State.stepDi_fpu (s : State) (w : Width) :
    (s.stepDi w).fpu = s.fpu := rfl
@[simp] theorem State.stepDi_draws (s : State) (w : Width) :
    (s.stepDi w).draws = s.draws := rfl
@[simp] theorem State.stepDi_cfg (s : State) (w : Width) :
    (s.stepDi w).cfg = s.cfg := rfl

@[simp] theorem State.setFlags_regs (s : State) (f : Flags) :
    (s.setFlags f).regs = s.regs := rfl
@[simp] theorem State.setFlags_flags (s : State) (f : Flags) :
    (s.setFlags f).flags = f := rfl
@[simp] theorem State.setFlags_ctl (s : State) (f : Flags) :
    (s.setFlags f).ctl = s.ctl := rfl
@[simp] theorem State.setFlags_env (s : State) (f : Flags) :
    (s.setFlags f).env = s.env := rfl
@[simp] theorem State.setFlags_mem (s : State) (f : Flags) :
    (s.setFlags f).mem = s.mem := rfl
@[simp] theorem State.setFlags_io (s : State) (f : Flags) :
    (s.setFlags f).io = s.io := rfl
@[simp] theorem State.setFlags_fpu (s : State) (f : Flags) :
    (s.setFlags f).fpu = s.fpu := rfl
@[simp] theorem State.setFlags_draws (s : State) (f : Flags) :
    (s.setFlags f).draws = s.draws := rfl
@[simp] theorem State.setFlags_cfg (s : State) (f : Flags) :
    (s.setFlags f).cfg = s.cfg := rfl

@[simp] theorem State.drawn_regs (s : State) (k : Nat) :
    (s.drawn k).regs = s.regs := rfl
@[simp] theorem State.drawn_flags (s : State) (k : Nat) :
    (s.drawn k).flags = s.flags := rfl
@[simp] theorem State.drawn_ctl (s : State) (k : Nat) :
    (s.drawn k).ctl = s.ctl := rfl
@[simp] theorem State.drawn_env (s : State) (k : Nat) :
    (s.drawn k).env = s.env := rfl
@[simp] theorem State.drawn_mem (s : State) (k : Nat) :
    (s.drawn k).mem = s.mem := rfl
@[simp] theorem State.drawn_io (s : State) (k : Nat) :
    (s.drawn k).io = s.io := rfl
@[simp] theorem State.drawn_fpu (s : State) (k : Nat) :
    (s.drawn k).fpu = s.fpu := rfl
@[simp] theorem State.drawn_draws (s : State) (k : Nat) :
    (s.drawn k).draws = s.draws + k := rfl
@[simp] theorem State.drawn_cfg (s : State) (k : Nat) :
    (s.drawn k).cfg = s.cfg := rfl

@[simp] theorem State.setRun_regs (s : State) (r : RunState) :
    (s.setRun r).regs = s.regs := rfl
@[simp] theorem State.setRun_flags (s : State) (r : RunState) :
    (s.setRun r).flags = s.flags := rfl
@[simp] theorem State.setRun_ctl (s : State) (r : RunState) :
    (s.setRun r).ctl = { s.ctl with run := r } := rfl
@[simp] theorem State.setRun_env (s : State) (r : RunState) :
    (s.setRun r).env = s.env := rfl
@[simp] theorem State.setRun_mem (s : State) (r : RunState) :
    (s.setRun r).mem = s.mem := rfl
@[simp] theorem State.setRun_io (s : State) (r : RunState) :
    (s.setRun r).io = s.io := rfl
@[simp] theorem State.setRun_fpu (s : State) (r : RunState) :
    (s.setRun r).fpu = s.fpu := rfl
@[simp] theorem State.setRun_draws (s : State) (r : RunState) :
    (s.setRun r).draws = s.draws := rfl
@[simp] theorem State.setRun_cfg (s : State) (r : RunState) :
    (s.setRun r).cfg = s.cfg := rfl

@[simp] theorem State.setInhibit_regs (s : State) (b : Bool) :
    (s.setInhibit b).regs = s.regs := rfl
@[simp] theorem State.setInhibit_flags (s : State) (b : Bool) :
    (s.setInhibit b).flags = s.flags := rfl
@[simp] theorem State.setInhibit_ctl (s : State) (b : Bool) :
    (s.setInhibit b).ctl = { s.ctl with inhibit := b } := rfl
@[simp] theorem State.setInhibit_env (s : State) (b : Bool) :
    (s.setInhibit b).env = s.env := rfl
@[simp] theorem State.setInhibit_mem (s : State) (b : Bool) :
    (s.setInhibit b).mem = s.mem := rfl
@[simp] theorem State.setInhibit_io (s : State) (b : Bool) :
    (s.setInhibit b).io = s.io := rfl
@[simp] theorem State.setInhibit_fpu (s : State) (b : Bool) :
    (s.setInhibit b).fpu = s.fpu := rfl
@[simp] theorem State.setInhibit_draws (s : State) (b : Bool) :
    (s.setInhibit b).draws = s.draws := rfl
@[simp] theorem State.setInhibit_cfg (s : State) (b : Bool) :
    (s.setInhibit b).cfg = s.cfg := rfl

@[simp] theorem State.setPfx_regs (s : State) (p : Prefixes) :
    (s.setPfx p).regs = s.regs := rfl
@[simp] theorem State.setPfx_flags (s : State) (p : Prefixes) :
    (s.setPfx p).flags = s.flags := rfl
@[simp] theorem State.setPfx_ctl (s : State) (p : Prefixes) :
    (s.setPfx p).ctl = { s.ctl with pfx := p } := rfl
@[simp] theorem State.setPfx_env (s : State) (p : Prefixes) :
    (s.setPfx p).env = s.env := rfl
@[simp] theorem State.setPfx_mem (s : State) (p : Prefixes) :
    (s.setPfx p).mem = s.mem := rfl
@[simp] theorem State.setPfx_io (s : State) (p : Prefixes) :
    (s.setPfx p).io = s.io := rfl
@[simp] theorem State.setPfx_fpu (s : State) (p : Prefixes) :
    (s.setPfx p).fpu = s.fpu := rfl
@[simp] theorem State.setPfx_draws (s : State) (p : Prefixes) :
    (s.setPfx p).draws = s.draws := rfl
@[simp] theorem State.setPfx_cfg (s : State) (p : Prefixes) :
    (s.setPfx p).cfg = s.cfg := rfl

@[simp] theorem State.setSt_regs (s : State) (n : Nat) (v : TReal) :
    (s.setSt n v).regs = s.regs := rfl
@[simp] theorem State.setSt_flags (s : State) (n : Nat) (v : TReal) :
    (s.setSt n v).flags = s.flags := rfl
@[simp] theorem State.setSt_ctl (s : State) (n : Nat) (v : TReal) :
    (s.setSt n v).ctl = s.ctl := rfl
@[simp] theorem State.setSt_env (s : State) (n : Nat) (v : TReal) :
    (s.setSt n v).env = s.env := rfl
@[simp] theorem State.setSt_mem (s : State) (n : Nat) (v : TReal) :
    (s.setSt n v).mem = s.mem := rfl
@[simp] theorem State.setSt_io (s : State) (n : Nat) (v : TReal) :
    (s.setSt n v).io = s.io := rfl
@[simp] theorem State.setSt_fpu (s : State) (n : Nat) (v : TReal) :
    (s.setSt n v).fpu = s.fpu.set n (some v) := rfl
@[simp] theorem State.setSt_draws (s : State) (n : Nat) (v : TReal) :
    (s.setSt n v).draws = s.draws := rfl
@[simp] theorem State.setSt_cfg (s : State) (n : Nat) (v : TReal) :
    (s.setSt n v).cfg = s.cfg := rfl

@[simp] theorem State.setBusLock_regs (s : State) (b : Bool) :
    (s.setBusLock b).regs = s.regs := rfl
@[simp] theorem State.setBusLock_flags (s : State) (b : Bool) :
    (s.setBusLock b).flags = s.flags := rfl
@[simp] theorem State.setBusLock_ctl (s : State) (b : Bool) :
    (s.setBusLock b).ctl = { s.ctl with busLock := b } := rfl
@[simp] theorem State.setBusLock_env (s : State) (b : Bool) :
    (s.setBusLock b).env = s.env := rfl
@[simp] theorem State.setBusLock_mem (s : State) (b : Bool) :
    (s.setBusLock b).mem = s.mem := rfl
@[simp] theorem State.setBusLock_io (s : State) (b : Bool) :
    (s.setBusLock b).io = s.io := rfl
@[simp] theorem State.setBusLock_fpu (s : State) (b : Bool) :
    (s.setBusLock b).fpu = s.fpu := rfl
@[simp] theorem State.setBusLock_draws (s : State) (b : Bool) :
    (s.setBusLock b).draws = s.draws := rfl
@[simp] theorem State.setBusLock_cfg (s : State) (b : Bool) :
    (s.setBusLock b).cfg = s.cfg := rfl

@[simp] theorem State.discardPrefetch_regs (s : State) :
    (s.discardPrefetch).regs = s.regs := rfl
@[simp] theorem State.discardPrefetch_flags (s : State) :
    (s.discardPrefetch).flags = s.flags := rfl
@[simp] theorem State.discardPrefetch_ctl (s : State) :
    (s.discardPrefetch).ctl = { s.ctl with stale := [] } := rfl
@[simp] theorem State.discardPrefetch_env (s : State) :
    (s.discardPrefetch).env = s.env := rfl
@[simp] theorem State.discardPrefetch_mem (s : State) :
    (s.discardPrefetch).mem = s.mem := rfl
@[simp] theorem State.discardPrefetch_io (s : State) :
    (s.discardPrefetch).io = s.io := rfl
@[simp] theorem State.discardPrefetch_fpu (s : State) :
    (s.discardPrefetch).fpu = s.fpu := rfl
@[simp] theorem State.discardPrefetch_draws (s : State) :
    (s.discardPrefetch).draws = s.draws := rfl
@[simp] theorem State.discardPrefetch_cfg (s : State) :
    (s.discardPrefetch).cfg = s.cfg := rfl

@[simp] theorem State.storeCell_regs (s : State) (c : Host.Cell) :
    (s.storeCell c).regs = s.regs := rfl
@[simp] theorem State.storeCell_flags (s : State) (c : Host.Cell) :
    (s.storeCell c).flags = s.flags := rfl
@[simp] theorem State.storeCell_ctl (s : State) (c : Host.Cell) :
    (s.storeCell c).ctl = s.ctl := rfl
@[simp] theorem State.storeCell_env (s : State) (c : Host.Cell) :
    (s.storeCell c).env = s.env := rfl
@[simp] theorem State.storeCell_mem (s : State) (c : Host.Cell) :
    (s.storeCell c).mem = Memory.write s.mem (c.1 % 2 ^ s.cfg.physBits) c.2 := rfl
@[simp] theorem State.storeCell_io (s : State) (c : Host.Cell) :
    (s.storeCell c).io = s.io := rfl
@[simp] theorem State.storeCell_fpu (s : State) (c : Host.Cell) :
    (s.storeCell c).fpu = s.fpu := rfl
@[simp] theorem State.storeCell_draws (s : State) (c : Host.Cell) :
    (s.storeCell c).draws = s.draws := rfl
@[simp] theorem State.storeCell_cfg (s : State) (c : Host.Cell) :
    (s.storeCell c).cfg = s.cfg := rfl

@[simp] theorem State.recordOutput_regs (s : State) (port : Word) (v : Byte) :
    (s.recordOutput port v).regs = s.regs := rfl
@[simp] theorem State.recordOutput_flags (s : State) (port : Word) (v : Byte) :
    (s.recordOutput port v).flags = s.flags := rfl
@[simp] theorem State.recordOutput_ctl (s : State) (port : Word) (v : Byte) :
    (s.recordOutput port v).ctl = s.ctl := rfl
@[simp] theorem State.recordOutput_env (s : State) (port : Word) (v : Byte) :
    (s.recordOutput port v).env = s.env := rfl
@[simp] theorem State.recordOutput_mem (s : State) (port : Word) (v : Byte) :
    (s.recordOutput port v).mem = s.mem := rfl
@[simp] theorem State.recordOutput_io (s : State) (port : Word) (v : Byte) :
    (s.recordOutput port v).io = .output port v :: s.io := rfl
@[simp] theorem State.recordOutput_fpu (s : State) (port : Word) (v : Byte) :
    (s.recordOutput port v).fpu = s.fpu := rfl
@[simp] theorem State.recordOutput_draws (s : State) (port : Word) (v : Byte) :
    (s.recordOutput port v).draws = s.draws := rfl
@[simp] theorem State.recordOutput_cfg (s : State) (port : Word) (v : Byte) :
    (s.recordOutput port v).cfg = s.cfg := rfl

@[simp] theorem State.goTo_regs (s : State) (target : Word) :
    (s.goTo target).regs = { s.regs with ip := target } := rfl
@[simp] theorem State.goTo_flags (s : State) (target : Word) :
    (s.goTo target).flags = s.flags := rfl
@[simp] theorem State.goTo_ctl (s : State) (target : Word) :
    (s.goTo target).ctl = { s.ctl with stale := [] } := rfl
@[simp] theorem State.goTo_env (s : State) (target : Word) :
    (s.goTo target).env = s.env := rfl
@[simp] theorem State.goTo_mem (s : State) (target : Word) :
    (s.goTo target).mem = s.mem := rfl
@[simp] theorem State.goTo_io (s : State) (target : Word) :
    (s.goTo target).io = s.io := rfl
@[simp] theorem State.goTo_fpu (s : State) (target : Word) :
    (s.goTo target).fpu = s.fpu := rfl
@[simp] theorem State.goTo_draws (s : State) (target : Word) :
    (s.goTo target).draws = s.draws := rfl
@[simp] theorem State.goTo_cfg (s : State) (target : Word) :
    (s.goTo target).cfg = s.cfg := rfl

@[simp] theorem State.goFar_regs (s : State) (seg off : Word) :
    (s.goFar seg off).regs = { s.regs with cs := seg, ip := off } := rfl
@[simp] theorem State.goFar_flags (s : State) (seg off : Word) :
    (s.goFar seg off).flags = s.flags := rfl
@[simp] theorem State.goFar_ctl (s : State) (seg off : Word) :
    (s.goFar seg off).ctl = { s.ctl with stale := [] } := rfl
@[simp] theorem State.goFar_env (s : State) (seg off : Word) :
    (s.goFar seg off).env = s.env := rfl
@[simp] theorem State.goFar_mem (s : State) (seg off : Word) :
    (s.goFar seg off).mem = s.mem := rfl
@[simp] theorem State.goFar_io (s : State) (seg off : Word) :
    (s.goFar seg off).io = s.io := rfl
@[simp] theorem State.goFar_fpu (s : State) (seg off : Word) :
    (s.goFar seg off).fpu = s.fpu := rfl
@[simp] theorem State.goFar_draws (s : State) (seg off : Word) :
    (s.goFar seg off).draws = s.draws := rfl
@[simp] theorem State.goFar_cfg (s : State) (seg off : Word) :
    (s.goFar seg off).cfg = s.cfg := rfl

@[simp] theorem State.store_regs (s : State) (addr : Nat) (v : Byte) :
    (s.store addr v).regs = s.regs := rfl
@[simp] theorem State.store_flags (s : State) (addr : Nat) (v : Byte) :
    (s.store addr v).flags = s.flags := rfl
@[simp] theorem State.store_ctl (s : State) (addr : Nat) (v : Byte) :
    (s.store addr v).ctl = { s.ctl with
      stale := if addr ∈ s.window then (addr, Memory.read s.mem addr) :: s.ctl.stale else s.ctl.stale } := rfl
@[simp] theorem State.store_env (s : State) (addr : Nat) (v : Byte) :
    (s.store addr v).env = s.env := rfl
@[simp] theorem State.store_mem (s : State) (addr : Nat) (v : Byte) :
    (s.store addr v).mem = Memory.write s.mem addr v := rfl
@[simp] theorem State.store_io (s : State) (addr : Nat) (v : Byte) :
    (s.store addr v).io = s.io := rfl
@[simp] theorem State.store_fpu (s : State) (addr : Nat) (v : Byte) :
    (s.store addr v).fpu = s.fpu := rfl
@[simp] theorem State.store_draws (s : State) (addr : Nat) (v : Byte) :
    (s.store addr v).draws = s.draws := rfl
@[simp] theorem State.store_cfg (s : State) (addr : Nat) (v : Byte) :
    (s.store addr v).cfg = s.cfg := rfl

@[simp] theorem State.recordInput_regs (s : State) (port : Word) :
    (s.recordInput port).regs = s.regs := rfl
@[simp] theorem State.recordInput_flags (s : State) (port : Word) :
    (s.recordInput port).flags = s.flags := rfl
@[simp] theorem State.recordInput_ctl (s : State) (port : Word) :
    (s.recordInput port).ctl = s.ctl := rfl
@[simp] theorem State.recordInput_env (s : State) (port : Word) :
    (s.recordInput port).env = { s.env with portIn := s.env.portIn.tail } := rfl
@[simp] theorem State.recordInput_mem (s : State) (port : Word) :
    (s.recordInput port).mem = s.mem := rfl
@[simp] theorem State.recordInput_io (s : State) (port : Word) :
    (s.recordInput port).io = .input port (s.portValue port) :: s.io := rfl
@[simp] theorem State.recordInput_fpu (s : State) (port : Word) :
    (s.recordInput port).fpu = s.fpu := rfl
@[simp] theorem State.recordInput_draws (s : State) (port : Word) :
    (s.recordInput port).draws = s.draws + 1 := rfl
@[simp] theorem State.recordInput_cfg (s : State) (port : Word) :
    (s.recordInput port).cfg = s.cfg := rfl

@[simp] theorem State.fpuPop_regs (s : State) : s.fpuPop.regs = s.regs := rfl
@[simp] theorem State.fpuPop_flags (s : State) : s.fpuPop.flags = s.flags := rfl
@[simp] theorem State.fpuPop_ctl (s : State) : s.fpuPop.ctl = s.ctl := rfl
@[simp] theorem State.fpuPop_env (s : State) : s.fpuPop.env = s.env := rfl
@[simp] theorem State.fpuPop_mem (s : State) : s.fpuPop.mem = s.mem := rfl
@[simp] theorem State.fpuPop_io (s : State) : s.fpuPop.io = s.io := rfl
@[simp] theorem State.fpuPop_fpu (s : State) : s.fpuPop.fpu = s.fpu.tail ++ [none] := rfl
@[simp] theorem State.fpuPop_draws (s : State) : s.fpuPop.draws = s.draws := rfl
@[simp] theorem State.fpuPop_cfg (s : State) : s.fpuPop.cfg = s.cfg := rfl

/-! ## Accesses: memory, and the environment's part of the state, are all that changes from outside -/

@[simp] theorem State.storeCells_regs (s : State) (l : List Host.Cell) : (s.storeCells l).regs = s.regs := by
  induction l generalizing s with
  | nil => rfl
  | cons c l ih => rw [State.storeCells, ih]; rfl
@[simp] theorem State.storeCells_flags (s : State) (l : List Host.Cell) : (s.storeCells l).flags = s.flags := by
  induction l generalizing s with
  | nil => rfl
  | cons c l ih => rw [State.storeCells, ih]; rfl
@[simp] theorem State.storeCells_ctl (s : State) (l : List Host.Cell) : (s.storeCells l).ctl = s.ctl := by
  induction l generalizing s with
  | nil => rfl
  | cons c l ih => rw [State.storeCells, ih]; rfl
@[simp] theorem State.storeCells_io (s : State) (l : List Host.Cell) : (s.storeCells l).io = s.io := by
  induction l generalizing s with
  | nil => rfl
  | cons c l ih => rw [State.storeCells, ih]; rfl
@[simp] theorem State.storeCells_fpu (s : State) (l : List Host.Cell) : (s.storeCells l).fpu = s.fpu := by
  induction l generalizing s with
  | nil => rfl
  | cons c l ih => rw [State.storeCells, ih]; rfl
@[simp] theorem State.storeCells_draws (s : State) (l : List Host.Cell) : (s.storeCells l).draws = s.draws := by
  induction l generalizing s with
  | nil => rfl
  | cons c l ih => rw [State.storeCells, ih]; rfl
@[simp] theorem State.storeCells_cfg (s : State) (l : List Host.Cell) : (s.storeCells l).cfg = s.cfg := by
  induction l generalizing s with
  | nil => rfl
  | cons c l ih => rw [State.storeCells, ih]; rfl
@[simp] theorem State.storeCells_env (s : State) (l : List Host.Cell) : (s.storeCells l).env = s.env := by
  induction l generalizing s with
  | nil => rfl
  | cons c l ih => rw [State.storeCells, ih]; rfl

@[simp] theorem State.agentStores_regs (s : State) (l : List Host.Cell) :
    (s.agentStores l).regs = s.regs := by
  unfold State.agentStores; split <;> simp
@[simp] theorem State.access_regs (s : State) : s.access.regs = s.regs := by
  unfold State.access; split <;> simp
@[simp] theorem State.accesses_regs (s : State) (n : Nat) : (s.accesses n).regs = s.regs := by
  induction n generalizing s with
  | zero => rfl
  | succ n ih => rw [State.accesses, ih, State.access_regs]
@[simp] theorem State.afterRead_regs (s : State) (w : Width) : (s.afterRead w).regs = s.regs :=
  State.accesses_regs s _
@[simp] theorem State.placeAfter_regs (s : State) (w : Width) (p : Place) : (s.placeAfter w p).regs = s.regs := by
  cases p <;> simp [State.placeAfter]
@[simp] theorem State.rmAfter_regs (s : State) (w : Width) (rm : Rm) : (s.rmAfter w rm).regs = s.regs :=
  State.placeAfter_regs s w _
@[simp] theorem State.agentStores_flags (s : State) (l : List Host.Cell) :
    (s.agentStores l).flags = s.flags := by
  unfold State.agentStores; split <;> simp
@[simp] theorem State.access_flags (s : State) : s.access.flags = s.flags := by
  unfold State.access; split <;> simp
@[simp] theorem State.accesses_flags (s : State) (n : Nat) : (s.accesses n).flags = s.flags := by
  induction n generalizing s with
  | zero => rfl
  | succ n ih => rw [State.accesses, ih, State.access_flags]
@[simp] theorem State.afterRead_flags (s : State) (w : Width) : (s.afterRead w).flags = s.flags :=
  State.accesses_flags s _
@[simp] theorem State.placeAfter_flags (s : State) (w : Width) (p : Place) : (s.placeAfter w p).flags = s.flags := by
  cases p <;> simp [State.placeAfter]
@[simp] theorem State.rmAfter_flags (s : State) (w : Width) (rm : Rm) : (s.rmAfter w rm).flags = s.flags :=
  State.placeAfter_flags s w _
@[simp] theorem State.agentStores_ctl (s : State) (l : List Host.Cell) :
    (s.agentStores l).ctl = s.ctl := by
  unfold State.agentStores; split <;> simp
@[simp] theorem State.access_ctl (s : State) : s.access.ctl = s.ctl := by
  unfold State.access; split <;> simp
@[simp] theorem State.accesses_ctl (s : State) (n : Nat) : (s.accesses n).ctl = s.ctl := by
  induction n generalizing s with
  | zero => rfl
  | succ n ih => rw [State.accesses, ih, State.access_ctl]
@[simp] theorem State.afterRead_ctl (s : State) (w : Width) : (s.afterRead w).ctl = s.ctl :=
  State.accesses_ctl s _
@[simp] theorem State.placeAfter_ctl (s : State) (w : Width) (p : Place) : (s.placeAfter w p).ctl = s.ctl := by
  cases p <;> simp [State.placeAfter]
@[simp] theorem State.rmAfter_ctl (s : State) (w : Width) (rm : Rm) : (s.rmAfter w rm).ctl = s.ctl :=
  State.placeAfter_ctl s w _
@[simp] theorem State.agentStores_io (s : State) (l : List Host.Cell) :
    (s.agentStores l).io = s.io := by
  unfold State.agentStores; split <;> simp
@[simp] theorem State.access_io (s : State) : s.access.io = s.io := by
  unfold State.access; split <;> simp
@[simp] theorem State.accesses_io (s : State) (n : Nat) : (s.accesses n).io = s.io := by
  induction n generalizing s with
  | zero => rfl
  | succ n ih => rw [State.accesses, ih, State.access_io]
@[simp] theorem State.afterRead_io (s : State) (w : Width) : (s.afterRead w).io = s.io :=
  State.accesses_io s _
@[simp] theorem State.placeAfter_io (s : State) (w : Width) (p : Place) : (s.placeAfter w p).io = s.io := by
  cases p <;> simp [State.placeAfter]
@[simp] theorem State.rmAfter_io (s : State) (w : Width) (rm : Rm) : (s.rmAfter w rm).io = s.io :=
  State.placeAfter_io s w _
@[simp] theorem State.agentStores_fpu (s : State) (l : List Host.Cell) :
    (s.agentStores l).fpu = s.fpu := by
  unfold State.agentStores; split <;> simp
@[simp] theorem State.access_fpu (s : State) : s.access.fpu = s.fpu := by
  unfold State.access; split <;> simp
@[simp] theorem State.accesses_fpu (s : State) (n : Nat) : (s.accesses n).fpu = s.fpu := by
  induction n generalizing s with
  | zero => rfl
  | succ n ih => rw [State.accesses, ih, State.access_fpu]
@[simp] theorem State.afterRead_fpu (s : State) (w : Width) : (s.afterRead w).fpu = s.fpu :=
  State.accesses_fpu s _
@[simp] theorem State.placeAfter_fpu (s : State) (w : Width) (p : Place) : (s.placeAfter w p).fpu = s.fpu := by
  cases p <;> simp [State.placeAfter]
@[simp] theorem State.rmAfter_fpu (s : State) (w : Width) (rm : Rm) : (s.rmAfter w rm).fpu = s.fpu :=
  State.placeAfter_fpu s w _
@[simp] theorem State.agentStores_draws (s : State) (l : List Host.Cell) :
    (s.agentStores l).draws = s.draws := by
  unfold State.agentStores; split <;> simp
@[simp] theorem State.access_draws (s : State) : s.access.draws = s.draws := by
  unfold State.access; split <;> simp
@[simp] theorem State.accesses_draws (s : State) (n : Nat) : (s.accesses n).draws = s.draws := by
  induction n generalizing s with
  | zero => rfl
  | succ n ih => rw [State.accesses, ih, State.access_draws]
@[simp] theorem State.afterRead_draws (s : State) (w : Width) : (s.afterRead w).draws = s.draws :=
  State.accesses_draws s _
@[simp] theorem State.placeAfter_draws (s : State) (w : Width) (p : Place) : (s.placeAfter w p).draws = s.draws := by
  cases p <;> simp [State.placeAfter]
@[simp] theorem State.rmAfter_draws (s : State) (w : Width) (rm : Rm) : (s.rmAfter w rm).draws = s.draws :=
  State.placeAfter_draws s w _
@[simp] theorem State.agentStores_cfg (s : State) (l : List Host.Cell) :
    (s.agentStores l).cfg = s.cfg := by
  unfold State.agentStores; split <;> simp
@[simp] theorem State.access_cfg (s : State) : s.access.cfg = s.cfg := by
  unfold State.access; split <;> simp
@[simp] theorem State.accesses_cfg (s : State) (n : Nat) : (s.accesses n).cfg = s.cfg := by
  induction n generalizing s with
  | zero => rfl
  | succ n ih => rw [State.accesses, ih, State.access_cfg]
@[simp] theorem State.afterRead_cfg (s : State) (w : Width) : (s.afterRead w).cfg = s.cfg :=
  State.accesses_cfg s _
@[simp] theorem State.placeAfter_cfg (s : State) (w : Width) (p : Place) : (s.placeAfter w p).cfg = s.cfg := by
  cases p <;> simp [State.placeAfter]
@[simp] theorem State.rmAfter_cfg (s : State) (w : Width) (rm : Rm) : (s.rmAfter w rm).cfg = s.cfg :=
  State.placeAfter_cfg s w _

@[simp] theorem State.drop_regs (s : State) : s.drop.regs = { s.regs with sp := s.regs.sp + 2 } := by simp [State.drop]
@[simp] theorem State.drop_flags (s : State) : s.drop.flags = s.flags := by simp [State.drop]
@[simp] theorem State.drop_ctl (s : State) : s.drop.ctl = s.ctl := by simp [State.drop]
@[simp] theorem State.drop_io (s : State) : s.drop.io = s.io := by simp [State.drop]
@[simp] theorem State.drop_fpu (s : State) : s.drop.fpu = s.fpu := by simp [State.drop]
@[simp] theorem State.drop_draws (s : State) : s.drop.draws = s.draws := by simp [State.drop]
@[simp] theorem State.drop_cfg (s : State) : s.drop.cfg = s.cfg := by simp [State.drop]

/-! ## Stores: what they leave alone -/

@[simp] theorem State.write8_regs (s : State) (seg off : Word) (v : Byte) : (s.write8 seg off v).regs = s.regs := by
  unfold State.write8; split <;> simp
@[simp] theorem State.write16_regs (s : State) (seg off : Word) (v : Word) :
    (s.write16 seg off v).regs = s.regs := by simp [State.write16]
@[simp] theorem State.write32_regs (s : State) (seg off : Word) (v : BitVec 32) :
    (s.write32 seg off v).regs = s.regs := by simp [State.write32]
@[simp] theorem State.write64_regs (s : State) (seg off : Word) (v : BitVec 64) :
    (s.write64 seg off v).regs = s.regs := by simp [State.write64]
@[simp] theorem State.write80_regs (s : State) (seg off : Word) (v : BitVec 80) :
    (s.write80 seg off v).regs = s.regs := by simp [State.write80]
@[simp] theorem State.writeMem_regs (s : State) (seg off : Word) (w : Width) (v : BitVec w.bits) :
    (s.writeMem seg off w v).regs = s.regs := by cases w <;> simp [State.writeMem]
@[simp] theorem State.push_regs (s : State) (v : Word) : (s.push v).regs = { s.regs with sp := s.regs.sp - 2 } := by simp [State.push]
@[simp] theorem State.write8_flags (s : State) (seg off : Word) (v : Byte) : (s.write8 seg off v).flags = s.flags := by
  unfold State.write8; split <;> simp
@[simp] theorem State.write16_flags (s : State) (seg off : Word) (v : Word) :
    (s.write16 seg off v).flags = s.flags := by simp [State.write16]
@[simp] theorem State.write32_flags (s : State) (seg off : Word) (v : BitVec 32) :
    (s.write32 seg off v).flags = s.flags := by simp [State.write32]
@[simp] theorem State.write64_flags (s : State) (seg off : Word) (v : BitVec 64) :
    (s.write64 seg off v).flags = s.flags := by simp [State.write64]
@[simp] theorem State.write80_flags (s : State) (seg off : Word) (v : BitVec 80) :
    (s.write80 seg off v).flags = s.flags := by simp [State.write80]
@[simp] theorem State.writeMem_flags (s : State) (seg off : Word) (w : Width) (v : BitVec w.bits) :
    (s.writeMem seg off w v).flags = s.flags := by cases w <;> simp [State.writeMem]
@[simp] theorem State.push_flags (s : State) (v : Word) : (s.push v).flags = s.flags := by simp [State.push]
@[simp] theorem State.writePlace_flags (s : State) (w : Width) (p : Place) (v : BitVec w.bits) :
    (s.writePlace w p v).flags = s.flags := by cases p <;> simp [State.writePlace]
@[simp] theorem State.write8_io (s : State) (seg off : Word) (v : Byte) : (s.write8 seg off v).io = s.io := by
  unfold State.write8; split <;> simp
@[simp] theorem State.write16_io (s : State) (seg off : Word) (v : Word) :
    (s.write16 seg off v).io = s.io := by simp [State.write16]
@[simp] theorem State.write32_io (s : State) (seg off : Word) (v : BitVec 32) :
    (s.write32 seg off v).io = s.io := by simp [State.write32]
@[simp] theorem State.write64_io (s : State) (seg off : Word) (v : BitVec 64) :
    (s.write64 seg off v).io = s.io := by simp [State.write64]
@[simp] theorem State.write80_io (s : State) (seg off : Word) (v : BitVec 80) :
    (s.write80 seg off v).io = s.io := by simp [State.write80]
@[simp] theorem State.writeMem_io (s : State) (seg off : Word) (w : Width) (v : BitVec w.bits) :
    (s.writeMem seg off w v).io = s.io := by cases w <;> simp [State.writeMem]
@[simp] theorem State.push_io (s : State) (v : Word) : (s.push v).io = s.io := by simp [State.push]
@[simp] theorem State.writePlace_io (s : State) (w : Width) (p : Place) (v : BitVec w.bits) :
    (s.writePlace w p v).io = s.io := by cases p <;> simp [State.writePlace]
@[simp] theorem State.write8_fpu (s : State) (seg off : Word) (v : Byte) : (s.write8 seg off v).fpu = s.fpu := by
  unfold State.write8; split <;> simp
@[simp] theorem State.write16_fpu (s : State) (seg off : Word) (v : Word) :
    (s.write16 seg off v).fpu = s.fpu := by simp [State.write16]
@[simp] theorem State.write32_fpu (s : State) (seg off : Word) (v : BitVec 32) :
    (s.write32 seg off v).fpu = s.fpu := by simp [State.write32]
@[simp] theorem State.write64_fpu (s : State) (seg off : Word) (v : BitVec 64) :
    (s.write64 seg off v).fpu = s.fpu := by simp [State.write64]
@[simp] theorem State.write80_fpu (s : State) (seg off : Word) (v : BitVec 80) :
    (s.write80 seg off v).fpu = s.fpu := by simp [State.write80]
@[simp] theorem State.writeMem_fpu (s : State) (seg off : Word) (w : Width) (v : BitVec w.bits) :
    (s.writeMem seg off w v).fpu = s.fpu := by cases w <;> simp [State.writeMem]
@[simp] theorem State.push_fpu (s : State) (v : Word) : (s.push v).fpu = s.fpu := by simp [State.push]
@[simp] theorem State.writePlace_fpu (s : State) (w : Width) (p : Place) (v : BitVec w.bits) :
    (s.writePlace w p v).fpu = s.fpu := by cases p <;> simp [State.writePlace]
@[simp] theorem State.write8_draws (s : State) (seg off : Word) (v : Byte) : (s.write8 seg off v).draws = s.draws := by
  unfold State.write8; split <;> simp
@[simp] theorem State.write16_draws (s : State) (seg off : Word) (v : Word) :
    (s.write16 seg off v).draws = s.draws := by simp [State.write16]
@[simp] theorem State.write32_draws (s : State) (seg off : Word) (v : BitVec 32) :
    (s.write32 seg off v).draws = s.draws := by simp [State.write32]
@[simp] theorem State.write64_draws (s : State) (seg off : Word) (v : BitVec 64) :
    (s.write64 seg off v).draws = s.draws := by simp [State.write64]
@[simp] theorem State.write80_draws (s : State) (seg off : Word) (v : BitVec 80) :
    (s.write80 seg off v).draws = s.draws := by simp [State.write80]
@[simp] theorem State.writeMem_draws (s : State) (seg off : Word) (w : Width) (v : BitVec w.bits) :
    (s.writeMem seg off w v).draws = s.draws := by cases w <;> simp [State.writeMem]
@[simp] theorem State.push_draws (s : State) (v : Word) : (s.push v).draws = s.draws := by simp [State.push]
@[simp] theorem State.writePlace_draws (s : State) (w : Width) (p : Place) (v : BitVec w.bits) :
    (s.writePlace w p v).draws = s.draws := by cases p <;> simp [State.writePlace]
@[simp] theorem State.write8_cfg (s : State) (seg off : Word) (v : Byte) : (s.write8 seg off v).cfg = s.cfg := by
  unfold State.write8; split <;> simp
@[simp] theorem State.write16_cfg (s : State) (seg off : Word) (v : Word) :
    (s.write16 seg off v).cfg = s.cfg := by simp [State.write16]
@[simp] theorem State.write32_cfg (s : State) (seg off : Word) (v : BitVec 32) :
    (s.write32 seg off v).cfg = s.cfg := by simp [State.write32]
@[simp] theorem State.write64_cfg (s : State) (seg off : Word) (v : BitVec 64) :
    (s.write64 seg off v).cfg = s.cfg := by simp [State.write64]
@[simp] theorem State.write80_cfg (s : State) (seg off : Word) (v : BitVec 80) :
    (s.write80 seg off v).cfg = s.cfg := by simp [State.write80]
@[simp] theorem State.writeMem_cfg (s : State) (seg off : Word) (w : Width) (v : BitVec w.bits) :
    (s.writeMem seg off w v).cfg = s.cfg := by cases w <;> simp [State.writeMem]
@[simp] theorem State.push_cfg (s : State) (v : Word) : (s.push v).cfg = s.cfg := by simp [State.push]
@[simp] theorem State.writePlace_cfg (s : State) (w : Width) (p : Place) (v : BitVec w.bits) :
    (s.writePlace w p v).cfg = s.cfg := by cases p <;> simp [State.writePlace]

end Sys2Proof.Machine
end

