-- ==== Sys2Proof/Laws/Ops.lean ====
section
/-! SUPPORT. What the shared operations over memory, places and the stack can do, said once. -/

namespace Sys2Proof.Machine

/-! ## Bytes and words -/

theorem joinBytes_lowByte (v : Word) : joinBytes (highByte v) (lowByte v) = v := by
  simp only [joinBytes, highByte, lowByte]
  ext k hk
  simp only [BitVec.getElem_append, BitVec.getElem_extractLsb']
  split
  · simp [BitVec.getLsbD_eq_getElem, hk]
  · rw [show 8 + (k - 8) = k by omega]; simp [BitVec.getLsbD_eq_getElem, hk]

theorem getLsbD_joinBytes (h l : Byte) (k : Nat) :
    (joinBytes h l).getLsbD k = if k < 8 then l.getLsbD k else h.getLsbD (k - 8) := by
  have := BitVec.getLsbD_append (x := h) (y := l) (i := k)
  rw [joinBytes]
  refine this.trans ?_
  split <;> rfl

theorem lowByte_joinBytes (h l : Byte) : lowByte (joinBytes h l) = l := by
  apply BitVec.eq_of_getLsbD_eq
  intro k hk
  simp [lowByte, getLsbD_joinBytes, hk]

theorem highByte_joinBytes (h l : Byte) : highByte (joinBytes h l) = h := by
  apply BitVec.eq_of_getLsbD_eq
  intro k hk
  simp [highByte, getLsbD_joinBytes, hk]

/-! ## Addresses -/

/-- Two offsets of one segment are two bytes of memory (R72). -/
theorem phys_injective {c : Config} (hc : 20 ≤ c.physBits) {seg a b : Word}
    (h : phys c seg a = phys c seg b) : a = b := by
  have hp : (2 : Nat) ^ 20 ≤ 2 ^ c.physBits := Nat.pow_le_pow_right (by omega) hc
  have ha := a.isLt
  have hb := b.isLt
  unfold phys at h
  apply BitVec.eq_of_toNat_eq
  by_contra hne
  rcases Nat.lt_or_gt_of_ne hne with hlt | hlt
  · have := (Nat.modEq_iff_dvd' (by omega)).1 (show _ ≡ _ [MOD 2 ^ c.physBits] from h)
    have := Nat.le_of_dvd (by omega) this
    omega
  · have := (Nat.modEq_iff_dvd' (by omega)).1 (show _ ≡ _ [MOD 2 ^ c.physBits] from h.symm)
    have := Nat.le_of_dvd (by omega) this
    omega

theorem bytesAt_append (c : Config) (seg off : Word) (m n : Nat) :
    bytesAt c seg off (m + n) = bytesAt c seg off m ++ bytesAt c seg (off + BitVec.ofNat 16 m) n := by
  simp only [bytesAt, List.range_add, List.map_append, List.map_map, List.append_cancel_left_eq]
  apply List.map_congr_left
  intro k _
  simp [BitVec.ofNat_add, BitVec.add_assoc]

/-- Which offsets of a segment n bytes cover. -/
theorem mem_bytesAt {c : Config} (hc : 20 ≤ c.physBits) {seg off o : Word} {n : Nat} :
    phys c seg o ∈ bytesAt c seg off n ↔ ∃ k < n, o = off + BitVec.ofNat 16 k := by
  simp only [bytesAt, List.mem_map, List.mem_range]
  constructor
  · rintro ⟨k, hk, h⟩; exact ⟨k, hk, (phys_injective hc h).symm⟩
  · rintro ⟨k, hk, rfl⟩; exact ⟨k, hk, rfl⟩

/-! ## Accesses with nothing from outside between them -/

theorem access_still {s : State} (h : s.still) : s.access = s := by
  have h' : s.env.bus = [] := h
  simp [State.access, h']

theorem accesses_still {s : State} (h : s.still) (n : Nat) : s.accesses n = s := by
  induction n with
  | zero => rfl
  | succ n ih => rw [State.accesses, access_still h, ih]

theorem resetReached_still {s : State} (h : s.still) : s.resetReached = false := by
  have h' : s.env.bus = [] := h
  simp [State.resetReached, h']

theorem read8_still {s : State} (h : s.still) (seg off : Word) :
    s.read8 seg off = Memory.read s.mem (phys s.cfg seg off) := by rw [State.read8, access_still h]

theorem read16_still {s : State} (h : s.still) (seg off : Word) :
    s.read16 seg off = joinBytes (s.read8 seg (off + 1)) (s.read8 seg off) := by
  rw [State.read16, access_still h]

theorem read32_still {s : State} (h : s.still) (seg off : Word) :
    s.read32 seg off = s.read16 seg (off + 2) ++ s.read16 seg off := by rw [State.read32, accesses_still h]

theorem read64_still {s : State} (h : s.still) (seg off : Word) :
    s.read64 seg off = s.read32 seg (off + 4) ++ s.read32 seg off := by rw [State.read64, accesses_still h]

theorem read80_still {s : State} (h : s.still) (seg off : Word) :
    s.read80 seg off = s.read16 seg (off + 8) ++ s.read64 seg off := by rw [State.read80, accesses_still h]

theorem memByte_still {s : State} (h : s.still) (a : Nat) :
    s.memByte a = Memory.read s.mem (a % 2 ^ s.cfg.physBits) := by rw [State.memByte, access_still h]

theorem memWord_still {s : State} (h : s.still) (a : Nat) :
    s.memWord a = joinBytes (s.memByte (a + 1)) (s.memByte a) := by rw [State.memWord, access_still h]

theorem write8_still {s : State} (h : s.still) (seg off : Word) (v : Byte) :
    s.write8 seg off v = s.store (phys s.cfg seg off) v := by
  rw [State.write8, access_still h, resetReached_still h]; rfl

theorem rmAfter_still {s : State} (h : s.still) (w : Width) (rm : Rm) : s.rmAfter w rm = s := by
  unfold State.rmAfter State.placeAfter
  split
  · rfl
  · exact accesses_still h _

/-- A shift or rotate by 0 only reads its operand. -/
theorem shift_zero (s : State) (op : ShiftOp) (w : Width) (rm : Rm) : s.shift op w rm 0 = s.rmAfter w rm := rfl

theorem afterRead_still {s : State} (h : s.still) (w : Width) : s.afterRead w = s := accesses_still h _

theorem drop_still {s : State} (h : s.still) : s.drop = s.setSp (s.regs.sp + 2) := by
  rw [State.drop, accesses_still h]

theorem portRead_still {s : State} (h : s.still) (port : Word) : s.portRead port = s.recordInput port := by
  rw [State.portRead, access_still h, resetReached_still h]; rfl

theorem portWrite_still {s : State} (h : s.still) (port : Word) (v : Byte) :
    s.portWrite port v = s.recordOutput port v := by
  rw [State.portWrite, access_still h, resetReached_still h]; rfl

/-! ## Stores -/

/-- `t` is `s` but for memory at the listed addresses and what prefetch may hold of it, and memory stays
canonical. -/
structure Stores (s t : State) (stored : List Nat) : Prop where
  frame : t = { s with mem := t.mem, ctl := { s.ctl with stale := t.ctl.stale } }
  same : SameBytes s t stored
  stale : StaleFrom s t stored
  wf : Memory.wf s.mem = true → Memory.wf t.mem = true

theorem Stores.cfg {s t : State} {l : List Nat} (h : Stores s t l) : t.cfg = s.cfg := by rw [h.frame]

theorem Stores.still {s t : State} {l : List Nat} (h : Stores s t l) (hs : s.still) : t.still := by
  rw [h.frame]; exact hs

theorem Stores.window {s t : State} {l : List Nat} (h : Stores s t l) : t.window = s.window := by
  rw [h.frame]; rfl

theorem Stores.memOk {s t : State} {l : List Nat} (h : Stores s t l) (hs : s.memOk = true) :
    t.memOk = true := by
  simp only [State.memOk, Bool.and_eq_true] at hs ⊢
  rw [h.cfg]; exact ⟨h.wf hs.1, hs.2⟩

theorem Stores.trans {s t u : State} {l m : List Nat} (h : Stores s t l) (g : Stores t u m) :
    Stores s u (l ++ m) where
  frame := by rw [g.frame, h.frame]
  same a ha := by
    simp only [List.mem_append, not_or] at ha
    rw [g.same a ha.2, h.same a ha.1]
  stale := by
    obtain ⟨x, hx, hx'⟩ := h.stale
    obtain ⟨y, hy, hy'⟩ := g.stale
    refine ⟨y ++ x, by rw [hy, hx, List.append_assoc], fun c hc => ?_⟩
    rcases List.mem_append.1 hc with hc | hc
    · exact ⟨List.mem_append_right _ (hy' c hc).1, h.window ▸ (hy' c hc).2⟩
    · exact ⟨List.mem_append_left _ (hx' c hc).1, (hx' c hc).2⟩
  wf := g.wf ∘ h.wf

theorem Stores.read8 {s t : State} {l : List Nat} (hs : s.still) (h : Stores s t l) {seg off : Word}
    (ho : phys s.cfg seg off ∉ l) : t.read8 seg off = s.read8 seg off := by
  rw [read8_still hs, read8_still (h.still hs), h.cfg, h.same _ ho]

theorem Stores.read16 {s t : State} {l : List Nat} (hs : s.still) (h : Stores s t l) {seg off : Word}
    (h0 : phys s.cfg seg off ∉ l) (h1 : phys s.cfg seg (off + 1) ∉ l) :
    t.read16 seg off = s.read16 seg off := by
  rw [read16_still hs, read16_still (h.still hs), h.read8 hs h0, h.read8 hs h1]

theorem State.memOk_wf {s : State} (h : s.memOk = true) : Memory.wf s.mem = true := by
  simp only [State.memOk, Bool.and_eq_true] at h; exact h.1

theorem State.memOk_bits {s : State} (h : s.memOk = true) : 20 ≤ s.cfg.physBits := by
  simp only [State.memOk, Bool.and_eq_true, decide_eq_true_eq] at h; exact h.2

/-- The processor's store of one byte. -/
theorem stores_store (s : State) (a : Nat) (v : Byte) : Stores s (s.store a v) [a] where
  frame := rfl
  same b hb := Memory.read_write_ne _ _ (by simpa using hb)
  stale := by
    by_cases ha : a ∈ s.window
    · exact ⟨[(a, Memory.read s.mem a)], by simp [State.store, ha], by simp [ha]⟩
    · exact ⟨[], by simp [State.store, ha], by simp⟩
  wf := Memory.wf_write _ _

theorem stores_write8 {s : State} (h : s.still) (seg off : Word) (v : Byte) :
    Stores s (s.write8 seg off v) (bytesAt s.cfg seg off 1) := by
  rw [write8_still h, show bytesAt s.cfg seg off 1 = [phys s.cfg seg off] by simp [bytesAt]]
  exact stores_store s _ v

theorem read8_write8 {s : State} (hs : s.still) (h : s.memOk = true) (seg off : Word) (v : Byte) :
    (s.write8 seg off v).read8 seg off = v := by
  rw [read8_still ((stores_write8 hs seg off v).still hs), write8_still hs]
  exact Memory.read_write _ _ (State.memOk_wf h)

/-- Two writes at neighbouring offsets are one write of both. -/
theorem Stores.join {s t u : State} {seg off : Word} {m n : Nat} (h : Stores s t (bytesAt s.cfg seg off m))
    (g : Stores t u (bytesAt t.cfg seg (off + BitVec.ofNat 16 m) n)) :
    Stores s u (bytesAt s.cfg seg off (m + n)) := by
  rw [bytesAt_append]; exact h.trans (h.cfg ▸ g)

theorem stores_write16 {s : State} (h : s.still) (seg off v : Word) :
    Stores s (s.write16 seg off v) (bytesAt s.cfg seg off 2) :=
  (stores_write8 h seg off (lowByte v)).join
    (stores_write8 ((stores_write8 h seg off _).still h) seg (off + 1) (highByte v))

/-- The bytes at an offset k below n from another one are elsewhere than m bytes n above it. -/
theorem not_mem_bytesAt {c : Config} (hc : 20 ≤ c.physBits) {seg off o : Word} {n : Nat}
    (h : ∀ k < n, (o.toNat + 65536 - off.toNat) % 65536 ≠ k) (hn : n ≤ 65536) :
    phys c seg o ∉ bytesAt c seg off n := by
  rw [mem_bytesAt hc]
  rintro ⟨k, hk, rfl⟩
  apply h k hk
  have := off.isLt
  simp only [BitVec.toNat_add, BitVec.toNat_ofNat, Nat.reducePow]
  omega

theorem read16_write16 {s : State} (hs : s.still) (h : s.memOk = true) (seg off v : Word) :
    (s.write16 seg off v).read16 seg off = v := by
  have g1 := stores_write8 hs seg off (lowByte v)
  have h1 := g1.memOk h
  have hs1 := g1.still hs
  have h2 := stores_write8 hs1 seg (off + 1) (highByte v)
  have hk : phys s.cfg seg off ∉ bytesAt s.cfg seg (off + 1) 1 := by
    apply not_mem_bytesAt (State.memOk_bits h) _ (by omega)
    intro k hk
    have := off.isLt
    rw [BitVec.toNat_add, show (1 : Word).toNat = 1 from rfl]
    omega
  rw [g1.cfg] at h2
  rw [State.write16, read16_still (h2.still hs1), read8_write8 hs1 h1,
    h2.read8 hs1 (by rw [g1.cfg]; exact hk), read8_write8 hs h, joinBytes_lowByte]

theorem stores_write32 {s : State} (h : s.still) (seg off : Word) (v : BitVec 32) :
    Stores s (s.write32 seg off v) (bytesAt s.cfg seg off 4) :=
  (stores_write16 h seg off (v.extractLsb' 0 16)).join
    (stores_write16 ((stores_write16 h seg off _).still h) seg (off + 2) (v.extractLsb' 16 16))

theorem stores_write64 {s : State} (h : s.still) (seg off : Word) (v : BitVec 64) :
    Stores s (s.write64 seg off v) (bytesAt s.cfg seg off 8) :=
  (stores_write32 h seg off (v.extractLsb' 0 32)).join
    (stores_write32 ((stores_write32 h seg off _).still h) seg (off + 4) (v.extractLsb' 32 32))

theorem stores_write80 {s : State} (h : s.still) (seg off : Word) (v : BitVec 80) :
    Stores s (s.write80 seg off v) (bytesAt s.cfg seg off 10) :=
  (stores_write64 h seg off (v.extractLsb' 0 64)).join
    (stores_write16 ((stores_write64 h seg off _).still h) seg (off + 8) (v.extractLsb' 64 16))

theorem stores_writeMem {s : State} (h : s.still) (seg off : Word) (w : Width) (v : BitVec w.bits) :
    Stores s (s.writeMem seg off w v) (bytesAt s.cfg seg off w.bytes.toNat) := by
  cases w with
  | byte => exact stores_write8 h seg off v
  | word => exact stores_write16 h seg off v

theorem readMem_writeMem {s : State} (hs : s.still) (h : s.memOk = true) (seg off : Word) (w : Width)
    (v : BitVec w.bits) : (s.writeMem seg off w v).readMem seg off w = v := by
  cases w with
  | byte => exact read8_write8 hs h seg off v
  | word => exact read16_write16 hs h seg off v

/-! ## Registers -/

theorem Regs.get8_set8 (g : Regs) (n m : Bits3) (v : Byte) :
    (g.set8 n v).get8 m = if m = n then v else g.get8 m := by
  cases n <;> cases m <;>
    simp [Regs.set8, Regs.get8, withLow, withHigh, lowByte_joinBytes, highByte_joinBytes]

theorem Regs.get16_set16 (g : Regs) (n m : Bits3) (v : Word) :
    (g.set16 n v).get16 m = if m = n then v else g.get16 m := by
  cases n <;> cases m <;> simp [Regs.set16, Regs.get16]

theorem Regs.get_set (g : Regs) (n : Bits3) (w : Width) (v : BitVec w.bits) : (g.set n w v).get n w = v := by
  cases w with
  | byte => exact (Regs.get8_set8 g n n v).trans (if_pos rfl)
  | word => exact (Regs.get16_set16 g n n v).trans (if_pos rfl)

/-! ## Places -/

/-- A write to a place changes the register or the bytes there, and nothing else. -/
theorem writePlace_frame {s : State} (hs : s.still) (w : Width) (p : Place) (v : BitVec w.bits) :
    s.writePlace w p v = { s with
        regs := placeRegs s.regs w p v, mem := (s.writePlace w p v).mem
        ctl := { s.ctl with stale := (s.writePlace w p v).ctl.stale } } ∧
      SameBytes s (s.writePlace w p v) (placeBytes s.cfg w p) ∧
      StaleFrom s (s.writePlace w p v) (placeBytes s.cfg w p) ∧
      (s.memOk = true → (s.writePlace w p v).memOk = true) := by
  cases p with
  | reg n => exact ⟨rfl, fun _ _ => rfl, ⟨[], rfl, by simp⟩, id⟩
  | mem seg off =>
    have h := stores_writeMem hs seg off w v
    exact ⟨h.frame, h.same, h.stale, h.memOk⟩

/-- A read of a place after a write to it gives the value written. -/
theorem readPlace_writePlace {s : State} (hs : s.still) (h : s.memOk = true) (w : Width) (p : Place)
    (v : BitVec w.bits) : (s.writePlace w p v).readPlace w p = v := by
  cases p with
  | reg n => exact Regs.get_set s.regs n w v
  | mem seg off => exact readMem_writeMem hs h seg off w v

/-! ## The stack and the interrupts -/

/-- A push: SP two lower, the word there, nothing else. -/
theorem push_frame {s : State} (hs : s.still) (v : Word) :
    s.push v = { s with
        regs := { s.regs with sp := s.regs.sp - 2 }, mem := (s.push v).mem
        ctl := { s.ctl with stale := (s.push v).ctl.stale } } ∧
      SameBytes s (s.push v) (bytesAt s.cfg s.regs.ss (s.regs.sp - 2) 2) ∧
      StaleFrom s (s.push v) (bytesAt s.cfg s.regs.ss (s.regs.sp - 2) 2) ∧
      (s.memOk = true → (s.push v).memOk = true ∧ (s.push v).top = v) := by
  have hs' : (s.setSp (s.regs.sp - 2)).still := hs
  have h := stores_write16 hs' s.regs.ss (s.regs.sp - 2) v
  refine ⟨h.frame, h.same, h.stale, fun hm => ⟨h.memOk hm, ?_⟩⟩
  have ht : (s.push v).regs = { s.regs with sp := s.regs.sp - 2 } := State.push_regs s v
  rw [State.top, ht]
  exact read16_write16 hs' hm _ _ _

/-- An interrupt, whatever comes from outside meanwhile: the processor runs, IF and TF are cleared, nothing is
prefetched, and the parts it does not name are as before. -/
theorem interrupt_frame (s : State) (n : Byte) (r : Word) :
    (s.interrupt n r).fpu = s.fpu ∧ (s.interrupt n r).io = s.io ∧
      (s.interrupt n r).cfg = s.cfg ∧ (s.interrupt n r).draws = s.draws ∧
      (s.interrupt n r).flags = { s.flags with IF := false, TF := false } ∧
      (s.interrupt n r).ctl.run = .running ∧ (s.interrupt n r).ctl.inhibit = false ∧
      (s.interrupt n r).ctl.stale = [] := by
  refine ⟨?_, ?_, ?_, ?_, ?_, rfl, rfl, rfl⟩ <;> simp [State.interrupt]

end Sys2Proof.Machine
end

