-- ==== Sys2Proof/Laws/Decode.lean ====
section
/-! SUPPORT. The decoder's shared operations against the encoder's: fields, the MOD REG R/M byte with its
displacement, and the operands after it. -/

namespace Sys2Proof

@[simp] theorem Bits3.ofBits_bits (n : Bits3) : Bits3.ofBits n.bits = n := by cases n <;> rfl

@[simp] theorem EaBase.ofField_field (b : EaBase) : EaBase.ofField b.field = b := by cases b <;> rfl

@[simp] theorem SReg.ofField_field (g : SReg) : SReg.ofField g.field = some g := by cases g <;> rfl

/-- Two bytes, the low one first, are the word they encode. -/
theorem joinBytes_wordBytes (v : Word) : joinBytes (highByte v) (lowByte v) = v :=
  Machine.joinBytes_lowByte v

/-- The MOD REG R/M bytes of an operand that has an encoding read back as the register and the operand. -/
theorem parseModRM_modrm (r : Bits3) (rm : Rm) (rest : List Byte) (h : rm.encodable = true) :
    parseModRM (modrm r rm ++ rest) = some (r, rm, rest) := by
  cases rm with
  | reg n => cases r <;> cases n <;> rfl
  | direct d =>
    have h : parseModRM (modrm r (.direct d) ++ rest) =
        some (r, .direct (joinBytes (highByte d) (lowByte d)), rest) := by cases r <;> rfl
    rw [h, joinBytes_wordBytes]
  | base b => cases r <;> cases b <;> first | rfl | cases h
  | disp8 b d => cases r <;> cases b <;> rfl
  | disp16 b d =>
    have h : parseModRM (modrm r (.disp16 b d) ++ rest) =
        some (r, .disp16 b (joinBytes (highByte d) (lowByte d)), rest) := by cases r <;> cases b <;> rfl
    rw [h, joinBytes_wordBytes]

/-- An immediate reads back from its bytes. -/
theorem Tail.parse_imm (w : Width) (k : BitVec w.bits → Instr) (v : BitVec w.bits) (rest : List Byte) :
    (Tail.imm w k).parse (immBytes w v ++ rest) = .ok (k v, rest) := by
  cases w with
  | byte => rfl
  | word => simp [Tail.imm, immBytes, wordBytes, Tail.parse, joinBytes_wordBytes]

end Sys2Proof
end

