-- ==== Sys2Proof/Laws/PerInstr.lean ====
section
/-! SUPPORT. The family EncodedLength: an instruction without prefixes has one to six bytes (R110, R125), one
lemma per constructor. -/

namespace Sys2Proof.Laws.EncodedLength

/-- The encoding has one to six bytes. -/
def Statement (i : Instr) : Prop := 1 ≤ (encode i).length ∧ (encode i).length ≤ 6

theorem modrm_length (r : Bits3) (rm : Rm) : (modrm r rm).length ≤ 3 := by
  cases rm <;> simp [modrm, wordBytes]

theorem immBytes_length (w : Width) (v : BitVec w.bits) : (immBytes w v).length ≤ 2 := by
  cases w <;> simp [immBytes, wordBytes]

theorem cons_modrm (a : Byte) (r : Bits3) (rm : Rm) :
    1 ≤ (a :: modrm r rm).length ∧ (a :: modrm r rm).length ≤ 6 := by
  have := modrm_length r rm
  simp only [List.length_cons]; omega

theorem cons_cons_modrm (a b : Byte) (r : Bits3) (rm : Rm) :
    1 ≤ (a :: b :: modrm r rm).length ∧ (a :: b :: modrm r rm).length ≤ 6 := by
  have := modrm_length r rm
  simp only [List.length_cons]; omega

theorem cons_imm (a : Byte) (w : Width) (v : BitVec w.bits) :
    1 ≤ (a :: immBytes w v).length ∧ (a :: immBytes w v).length ≤ 6 := by
  have := immBytes_length w v
  simp only [List.length_cons]; omega

theorem cons_modrm_append (a : Byte) (r : Bits3) (rm : Rm) (l : List Byte) (h : l.length ≤ 2) :
    1 ≤ (a :: (modrm r rm ++ l)).length ∧ (a :: (modrm r rm ++ l)).length ≤ 6 := by
  have := modrm_length r rm
  simp only [List.length_cons, List.length_append]; omega

theorem cons_cons_modrm_append (a b c : Byte) (r : Bits3) (rm : Rm) :
    1 ≤ (a :: b :: (modrm r rm ++ [c])).length ∧ (a :: b :: (modrm r rm ++ [c])).length ≤ 6 := by
  have := modrm_length r rm
  simp only [List.length_cons, List.length_append, List.length_nil]; omega

theorem addRm (d : Dir) (w : Width) (rm : Rm) (r : Bits3) : Statement (.addRm d w rm r) := cons_modrm _ _ _
theorem addAcc (w : Width) (imm : BitVec w.bits) : Statement (.addAcc w imm) := cons_imm _ _ _
theorem addImm (w : Width) (rm : Rm) (imm : BitVec w.bits) : Statement (.addImm w rm imm) := cons_modrm_append _ _ _ _ (immBytes_length _ _)
theorem addImmS (rm : Rm) (imm8 : Byte) : Statement (.addImmS rm imm8) := cons_modrm_append _ _ _ _ (Nat.le_of_ble_eq_true rfl)
theorem orRm (d : Dir) (w : Width) (rm : Rm) (r : Bits3) : Statement (.orRm d w rm r) := cons_modrm _ _ _
theorem orAcc (w : Width) (imm : BitVec w.bits) : Statement (.orAcc w imm) := cons_imm _ _ _
theorem orImm (w : Width) (rm : Rm) (imm : BitVec w.bits) : Statement (.orImm w rm imm) := cons_modrm_append _ _ _ _ (immBytes_length _ _)
theorem adcRm (d : Dir) (w : Width) (rm : Rm) (r : Bits3) : Statement (.adcRm d w rm r) := cons_modrm _ _ _
theorem adcAcc (w : Width) (imm : BitVec w.bits) : Statement (.adcAcc w imm) := cons_imm _ _ _
theorem adcImm (w : Width) (rm : Rm) (imm : BitVec w.bits) : Statement (.adcImm w rm imm) := cons_modrm_append _ _ _ _ (immBytes_length _ _)
theorem adcImmS (rm : Rm) (imm8 : Byte) : Statement (.adcImmS rm imm8) := cons_modrm_append _ _ _ _ (Nat.le_of_ble_eq_true rfl)
theorem sbbRm (d : Dir) (w : Width) (rm : Rm) (r : Bits3) : Statement (.sbbRm d w rm r) := cons_modrm _ _ _
theorem sbbAcc (w : Width) (imm : BitVec w.bits) : Statement (.sbbAcc w imm) := cons_imm _ _ _
theorem sbbImm (w : Width) (rm : Rm) (imm : BitVec w.bits) : Statement (.sbbImm w rm imm) := cons_modrm_append _ _ _ _ (immBytes_length _ _)
theorem sbbImmS (rm : Rm) (imm8 : Byte) : Statement (.sbbImmS rm imm8) := cons_modrm_append _ _ _ _ (Nat.le_of_ble_eq_true rfl)
theorem andRm (d : Dir) (w : Width) (rm : Rm) (r : Bits3) : Statement (.andRm d w rm r) := cons_modrm _ _ _
theorem andAcc (w : Width) (imm : BitVec w.bits) : Statement (.andAcc w imm) := cons_imm _ _ _
theorem andImm (w : Width) (rm : Rm) (imm : BitVec w.bits) : Statement (.andImm w rm imm) := cons_modrm_append _ _ _ _ (immBytes_length _ _)
theorem subRm (d : Dir) (w : Width) (rm : Rm) (r : Bits3) : Statement (.subRm d w rm r) := cons_modrm _ _ _
theorem subAcc (w : Width) (imm : BitVec w.bits) : Statement (.subAcc w imm) := cons_imm _ _ _
theorem subImm (w : Width) (rm : Rm) (imm : BitVec w.bits) : Statement (.subImm w rm imm) := cons_modrm_append _ _ _ _ (immBytes_length _ _)
theorem subImmS (rm : Rm) (imm8 : Byte) : Statement (.subImmS rm imm8) := cons_modrm_append _ _ _ _ (Nat.le_of_ble_eq_true rfl)
theorem xorRm (d : Dir) (w : Width) (rm : Rm) (r : Bits3) : Statement (.xorRm d w rm r) := cons_modrm _ _ _
theorem xorAcc (w : Width) (imm : BitVec w.bits) : Statement (.xorAcc w imm) := cons_imm _ _ _
theorem xorImm (w : Width) (rm : Rm) (imm : BitVec w.bits) : Statement (.xorImm w rm imm) := cons_modrm_append _ _ _ _ (immBytes_length _ _)
theorem cmpRm (d : Dir) (w : Width) (rm : Rm) (r : Bits3) : Statement (.cmpRm d w rm r) := cons_modrm _ _ _
theorem cmpAcc (w : Width) (imm : BitVec w.bits) : Statement (.cmpAcc w imm) := cons_imm _ _ _
theorem cmpImm (w : Width) (rm : Rm) (imm : BitVec w.bits) : Statement (.cmpImm w rm imm) := cons_modrm_append _ _ _ _ (immBytes_length _ _)
theorem cmpImmS (rm : Rm) (imm8 : Byte) : Statement (.cmpImmS rm imm8) := cons_modrm_append _ _ _ _ (Nat.le_of_ble_eq_true rfl)
theorem pushEs : Statement .pushEs := ⟨Nat.le_add_left 1 _, by show List.length _ ≤ 6; exact Nat.le_of_ble_eq_true rfl⟩
theorem popEs : Statement .popEs := ⟨Nat.le_add_left 1 _, by show List.length _ ≤ 6; exact Nat.le_of_ble_eq_true rfl⟩
theorem pushCs : Statement .pushCs := ⟨Nat.le_add_left 1 _, by show List.length _ ≤ 6; exact Nat.le_of_ble_eq_true rfl⟩
theorem pushSs : Statement .pushSs := ⟨Nat.le_add_left 1 _, by show List.length _ ≤ 6; exact Nat.le_of_ble_eq_true rfl⟩
theorem popSs : Statement .popSs := ⟨Nat.le_add_left 1 _, by show List.length _ ≤ 6; exact Nat.le_of_ble_eq_true rfl⟩
theorem pushDs : Statement .pushDs := ⟨Nat.le_add_left 1 _, by show List.length _ ≤ 6; exact Nat.le_of_ble_eq_true rfl⟩
theorem popDs : Statement .popDs := ⟨Nat.le_add_left 1 _, by show List.length _ ≤ 6; exact Nat.le_of_ble_eq_true rfl⟩
theorem segEs : Statement .segEs := ⟨Nat.le_add_left 1 _, by show List.length _ ≤ 6; exact Nat.le_of_ble_eq_true rfl⟩
theorem segCs : Statement .segCs := ⟨Nat.le_add_left 1 _, by show List.length _ ≤ 6; exact Nat.le_of_ble_eq_true rfl⟩
theorem segSs : Statement .segSs := ⟨Nat.le_add_left 1 _, by show List.length _ ≤ 6; exact Nat.le_of_ble_eq_true rfl⟩
theorem segDs : Statement .segDs := ⟨Nat.le_add_left 1 _, by show List.length _ ≤ 6; exact Nat.le_of_ble_eq_true rfl⟩
theorem daa : Statement .daa := ⟨Nat.le_add_left 1 _, by show List.length _ ≤ 6; exact Nat.le_of_ble_eq_true rfl⟩
theorem das : Statement .das := ⟨Nat.le_add_left 1 _, by show List.length _ ≤ 6; exact Nat.le_of_ble_eq_true rfl⟩
theorem aaa : Statement .aaa := ⟨Nat.le_add_left 1 _, by show List.length _ ≤ 6; exact Nat.le_of_ble_eq_true rfl⟩
theorem aas : Statement .aas := ⟨Nat.le_add_left 1 _, by show List.length _ ≤ 6; exact Nat.le_of_ble_eq_true rfl⟩
theorem incReg (r : Bits3) : Statement (.incReg r) := ⟨Nat.le_add_left 1 _, by show List.length _ ≤ 6; exact Nat.le_of_ble_eq_true rfl⟩
theorem decReg (r : Bits3) : Statement (.decReg r) := ⟨Nat.le_add_left 1 _, by show List.length _ ≤ 6; exact Nat.le_of_ble_eq_true rfl⟩
theorem pushReg (r : Bits3) : Statement (.pushReg r) := ⟨Nat.le_add_left 1 _, by show List.length _ ≤ 6; exact Nat.le_of_ble_eq_true rfl⟩
theorem popReg (r : Bits3) : Statement (.popReg r) := ⟨Nat.le_add_left 1 _, by show List.length _ ≤ 6; exact Nat.le_of_ble_eq_true rfl⟩
theorem jo (disp8 : Byte) : Statement (.jo disp8) := ⟨Nat.le_add_left 1 _, by show List.length _ ≤ 6; exact Nat.le_of_ble_eq_true rfl⟩
theorem jno (disp8 : Byte) : Statement (.jno disp8) := ⟨Nat.le_add_left 1 _, by show List.length _ ≤ 6; exact Nat.le_of_ble_eq_true rfl⟩
theorem jb (disp8 : Byte) : Statement (.jb disp8) := ⟨Nat.le_add_left 1 _, by show List.length _ ≤ 6; exact Nat.le_of_ble_eq_true rfl⟩
theorem jae (disp8 : Byte) : Statement (.jae disp8) := ⟨Nat.le_add_left 1 _, by show List.length _ ≤ 6; exact Nat.le_of_ble_eq_true rfl⟩
theorem je (disp8 : Byte) : Statement (.je disp8) := ⟨Nat.le_add_left 1 _, by show List.length _ ≤ 6; exact Nat.le_of_ble_eq_true rfl⟩
theorem jne (disp8 : Byte) : Statement (.jne disp8) := ⟨Nat.le_add_left 1 _, by show List.length _ ≤ 6; exact Nat.le_of_ble_eq_true rfl⟩
theorem jbe (disp8 : Byte) : Statement (.jbe disp8) := ⟨Nat.le_add_left 1 _, by show List.length _ ≤ 6; exact Nat.le_of_ble_eq_true rfl⟩
theorem ja (disp8 : Byte) : Statement (.ja disp8) := ⟨Nat.le_add_left 1 _, by show List.length _ ≤ 6; exact Nat.le_of_ble_eq_true rfl⟩
theorem js (disp8 : Byte) : Statement (.js disp8) := ⟨Nat.le_add_left 1 _, by show List.length _ ≤ 6; exact Nat.le_of_ble_eq_true rfl⟩
theorem jns (disp8 : Byte) : Statement (.jns disp8) := ⟨Nat.le_add_left 1 _, by show List.length _ ≤ 6; exact Nat.le_of_ble_eq_true rfl⟩
theorem jp (disp8 : Byte) : Statement (.jp disp8) := ⟨Nat.le_add_left 1 _, by show List.length _ ≤ 6; exact Nat.le_of_ble_eq_true rfl⟩
theorem jnp (disp8 : Byte) : Statement (.jnp disp8) := ⟨Nat.le_add_left 1 _, by show List.length _ ≤ 6; exact Nat.le_of_ble_eq_true rfl⟩
theorem jl (disp8 : Byte) : Statement (.jl disp8) := ⟨Nat.le_add_left 1 _, by show List.length _ ≤ 6; exact Nat.le_of_ble_eq_true rfl⟩
theorem jge (disp8 : Byte) : Statement (.jge disp8) := ⟨Nat.le_add_left 1 _, by show List.length _ ≤ 6; exact Nat.le_of_ble_eq_true rfl⟩
theorem jle (disp8 : Byte) : Statement (.jle disp8) := ⟨Nat.le_add_left 1 _, by show List.length _ ≤ 6; exact Nat.le_of_ble_eq_true rfl⟩
theorem jg (disp8 : Byte) : Statement (.jg disp8) := ⟨Nat.le_add_left 1 _, by show List.length _ ≤ 6; exact Nat.le_of_ble_eq_true rfl⟩
theorem testRm (w : Width) (rm : Rm) (r : Bits3) : Statement (.testRm w rm r) := cons_modrm _ _ _
theorem xchgRm (w : Width) (rm : Rm) (r : Bits3) : Statement (.xchgRm w rm r) := cons_modrm _ _ _
theorem movRm (d : Dir) (w : Width) (rm : Rm) (r : Bits3) : Statement (.movRm d w rm r) := cons_modrm _ _ _
theorem movRmSeg (rm : Rm) (sr : SReg) : Statement (.movRmSeg rm sr) := cons_modrm _ _ _
theorem lea (r : Bits3) (rm : Rm) : Statement (.lea r rm) := cons_modrm _ _ _
theorem movSegRm (sr : SReg) (rm : Rm) : Statement (.movSegRm sr rm) := cons_modrm _ _ _
theorem popRm (rm : Rm) : Statement (.popRm rm) := cons_modrm _ _ _
theorem nop : Statement .nop := ⟨Nat.le_add_left 1 _, by show List.length _ ≤ 6; exact Nat.le_of_ble_eq_true rfl⟩
theorem xchgAcc (r : Bits3) : Statement (.xchgAcc r) := ⟨Nat.le_add_left 1 _, by show List.length _ ≤ 6; exact Nat.le_of_ble_eq_true rfl⟩
theorem cbw : Statement .cbw := ⟨Nat.le_add_left 1 _, by show List.length _ ≤ 6; exact Nat.le_of_ble_eq_true rfl⟩
theorem cwd : Statement .cwd := ⟨Nat.le_add_left 1 _, by show List.length _ ≤ 6; exact Nat.le_of_ble_eq_true rfl⟩
theorem callFar (off : Word) (sg : Word) : Statement (.callFar off sg) := ⟨Nat.le_add_left 1 _, Nat.le_of_ble_eq_true rfl⟩
theorem wait : Statement .wait := ⟨Nat.le_add_left 1 _, by show List.length _ ≤ 6; exact Nat.le_of_ble_eq_true rfl⟩
theorem pushf : Statement .pushf := ⟨Nat.le_add_left 1 _, by show List.length _ ≤ 6; exact Nat.le_of_ble_eq_true rfl⟩
theorem popf : Statement .popf := ⟨Nat.le_add_left 1 _, by show List.length _ ≤ 6; exact Nat.le_of_ble_eq_true rfl⟩
theorem sahf : Statement .sahf := ⟨Nat.le_add_left 1 _, by show List.length _ ≤ 6; exact Nat.le_of_ble_eq_true rfl⟩
theorem lahf : Statement .lahf := ⟨Nat.le_add_left 1 _, by show List.length _ ≤ 6; exact Nat.le_of_ble_eq_true rfl⟩
theorem movAccMem (w : Width) (addr : Word) : Statement (.movAccMem w addr) := ⟨Nat.le_add_left 1 _, Nat.le_of_ble_eq_true rfl⟩
theorem movMemAcc (w : Width) (addr : Word) : Statement (.movMemAcc w addr) := ⟨Nat.le_add_left 1 _, Nat.le_of_ble_eq_true rfl⟩
theorem movs (w : Width) : Statement (.movs w) := ⟨Nat.le_add_left 1 _, by show List.length _ ≤ 6; exact Nat.le_of_ble_eq_true rfl⟩
theorem cmps (w : Width) : Statement (.cmps w) := ⟨Nat.le_add_left 1 _, by show List.length _ ≤ 6; exact Nat.le_of_ble_eq_true rfl⟩
theorem stos (w : Width) : Statement (.stos w) := ⟨Nat.le_add_left 1 _, by show List.length _ ≤ 6; exact Nat.le_of_ble_eq_true rfl⟩
theorem lods (w : Width) : Statement (.lods w) := ⟨Nat.le_add_left 1 _, by show List.length _ ≤ 6; exact Nat.le_of_ble_eq_true rfl⟩
theorem scas (w : Width) : Statement (.scas w) := ⟨Nat.le_add_left 1 _, by show List.length _ ≤ 6; exact Nat.le_of_ble_eq_true rfl⟩
theorem testAcc (w : Width) (imm : BitVec w.bits) : Statement (.testAcc w imm) := cons_imm _ _ _
theorem movRegImm (w : Width) (r : Bits3) (imm : BitVec w.bits) : Statement (.movRegImm w r imm) := cons_imm _ _ _
theorem retPop (pop : Word) : Statement (.retPop pop) := ⟨Nat.le_add_left 1 _, Nat.le_of_ble_eq_true rfl⟩
theorem ret : Statement .ret := ⟨Nat.le_add_left 1 _, by show List.length _ ≤ 6; exact Nat.le_of_ble_eq_true rfl⟩
theorem les (r : Bits3) (rm : Rm) : Statement (.les r rm) := cons_modrm _ _ _
theorem lds (r : Bits3) (rm : Rm) : Statement (.lds r rm) := cons_modrm _ _ _
theorem movRmImm (w : Width) (rm : Rm) (imm : BitVec w.bits) : Statement (.movRmImm w rm imm) := cons_modrm_append _ _ _ _ (immBytes_length _ _)
theorem retFarPop (pop : Word) : Statement (.retFarPop pop) := ⟨Nat.le_add_left 1 _, Nat.le_of_ble_eq_true rfl⟩
theorem retFar : Statement .retFar := ⟨Nat.le_add_left 1 _, by show List.length _ ≤ 6; exact Nat.le_of_ble_eq_true rfl⟩
theorem int3 : Statement .int3 := ⟨Nat.le_add_left 1 _, by show List.length _ ≤ 6; exact Nat.le_of_ble_eq_true rfl⟩
theorem intN (t : Byte) : Statement (.intN t) := ⟨Nat.le_add_left 1 _, by show List.length _ ≤ 6; exact Nat.le_of_ble_eq_true rfl⟩
theorem into : Statement .into := ⟨Nat.le_add_left 1 _, by show List.length _ ≤ 6; exact Nat.le_of_ble_eq_true rfl⟩
theorem iret : Statement .iret := ⟨Nat.le_add_left 1 _, by show List.length _ ≤ 6; exact Nat.le_of_ble_eq_true rfl⟩
theorem rol (v : ShiftCount) (w : Width) (rm : Rm) : Statement (.rol v w rm) := cons_modrm _ _ _
theorem ror (v : ShiftCount) (w : Width) (rm : Rm) : Statement (.ror v w rm) := cons_modrm _ _ _
theorem rcl (v : ShiftCount) (w : Width) (rm : Rm) : Statement (.rcl v w rm) := cons_modrm _ _ _
theorem rcr (v : ShiftCount) (w : Width) (rm : Rm) : Statement (.rcr v w rm) := cons_modrm _ _ _
theorem shl (v : ShiftCount) (w : Width) (rm : Rm) : Statement (.shl v w rm) := cons_modrm _ _ _
theorem shr (v : ShiftCount) (w : Width) (rm : Rm) : Statement (.shr v w rm) := cons_modrm _ _ _
theorem sar (v : ShiftCount) (w : Width) (rm : Rm) : Statement (.sar v w rm) := cons_modrm _ _ _
theorem aam : Statement .aam := ⟨Nat.le_add_left 1 _, by show List.length _ ≤ 6; exact Nat.le_of_ble_eq_true rfl⟩
theorem aad : Statement .aad := ⟨Nat.le_add_left 1 _, by show List.length _ ≤ 6; exact Nat.le_of_ble_eq_true rfl⟩
theorem xlat : Statement .xlat := ⟨Nat.le_add_left 1 _, by show List.length _ ≤ 6; exact Nat.le_of_ble_eq_true rfl⟩
theorem esc (x1 : Bits3) (x2 : Bits3) (rm : Rm) : Statement (.esc x1 x2 rm) := cons_modrm _ _ _
theorem loopne (disp8 : Byte) : Statement (.loopne disp8) := ⟨Nat.le_add_left 1 _, by show List.length _ ≤ 6; exact Nat.le_of_ble_eq_true rfl⟩
theorem loope (disp8 : Byte) : Statement (.loope disp8) := ⟨Nat.le_add_left 1 _, by show List.length _ ≤ 6; exact Nat.le_of_ble_eq_true rfl⟩
theorem loop (disp8 : Byte) : Statement (.loop disp8) := ⟨Nat.le_add_left 1 _, by show List.length _ ≤ 6; exact Nat.le_of_ble_eq_true rfl⟩
theorem jcxz (disp8 : Byte) : Statement (.jcxz disp8) := ⟨Nat.le_add_left 1 _, by show List.length _ ≤ 6; exact Nat.le_of_ble_eq_true rfl⟩
theorem inFixed (w : Width) (port : Byte) : Statement (.inFixed w port) := ⟨Nat.le_add_left 1 _, by show List.length _ ≤ 6; exact Nat.le_of_ble_eq_true rfl⟩
theorem outFixed (w : Width) (port : Byte) : Statement (.outFixed w port) := ⟨Nat.le_add_left 1 _, by show List.length _ ≤ 6; exact Nat.le_of_ble_eq_true rfl⟩
theorem callNear (disp16 : Word) : Statement (.callNear disp16) := ⟨Nat.le_add_left 1 _, Nat.le_of_ble_eq_true rfl⟩
theorem jmpNear (disp16 : Word) : Statement (.jmpNear disp16) := ⟨Nat.le_add_left 1 _, Nat.le_of_ble_eq_true rfl⟩
theorem jmpFar (off : Word) (sg : Word) : Statement (.jmpFar off sg) := ⟨Nat.le_add_left 1 _, Nat.le_of_ble_eq_true rfl⟩
theorem jmpShort (disp8 : Byte) : Statement (.jmpShort disp8) := ⟨Nat.le_add_left 1 _, by show List.length _ ≤ 6; exact Nat.le_of_ble_eq_true rfl⟩
theorem inDx (w : Width) : Statement (.inDx w) := ⟨Nat.le_add_left 1 _, by show List.length _ ≤ 6; exact Nat.le_of_ble_eq_true rfl⟩
theorem outDx (w : Width) : Statement (.outDx w) := ⟨Nat.le_add_left 1 _, by show List.length _ ≤ 6; exact Nat.le_of_ble_eq_true rfl⟩
theorem lock : Statement .lock := ⟨Nat.le_add_left 1 _, by show List.length _ ≤ 6; exact Nat.le_of_ble_eq_true rfl⟩
theorem repne : Statement .repne := ⟨Nat.le_add_left 1 _, by show List.length _ ≤ 6; exact Nat.le_of_ble_eq_true rfl⟩
theorem rep : Statement .rep := ⟨Nat.le_add_left 1 _, by show List.length _ ≤ 6; exact Nat.le_of_ble_eq_true rfl⟩
theorem hlt : Statement .hlt := ⟨Nat.le_add_left 1 _, by show List.length _ ≤ 6; exact Nat.le_of_ble_eq_true rfl⟩
theorem cmc : Statement .cmc := ⟨Nat.le_add_left 1 _, by show List.length _ ≤ 6; exact Nat.le_of_ble_eq_true rfl⟩
theorem testImm (w : Width) (rm : Rm) (imm : BitVec w.bits) : Statement (.testImm w rm imm) := cons_modrm_append _ _ _ _ (immBytes_length _ _)
theorem not (w : Width) (rm : Rm) : Statement (.not w rm) := cons_modrm _ _ _
theorem neg (w : Width) (rm : Rm) : Statement (.neg w rm) := cons_modrm _ _ _
theorem mul (w : Width) (rm : Rm) : Statement (.mul w rm) := cons_modrm _ _ _
theorem imul (w : Width) (rm : Rm) : Statement (.imul w rm) := cons_modrm _ _ _
theorem div (w : Width) (rm : Rm) : Statement (.div w rm) := cons_modrm _ _ _
theorem idiv (w : Width) (rm : Rm) : Statement (.idiv w rm) := cons_modrm _ _ _
theorem clc : Statement .clc := ⟨Nat.le_add_left 1 _, by show List.length _ ≤ 6; exact Nat.le_of_ble_eq_true rfl⟩
theorem stc : Statement .stc := ⟨Nat.le_add_left 1 _, by show List.length _ ≤ 6; exact Nat.le_of_ble_eq_true rfl⟩
theorem cli : Statement .cli := ⟨Nat.le_add_left 1 _, by show List.length _ ≤ 6; exact Nat.le_of_ble_eq_true rfl⟩
theorem sti : Statement .sti := ⟨Nat.le_add_left 1 _, by show List.length _ ≤ 6; exact Nat.le_of_ble_eq_true rfl⟩
theorem cld : Statement .cld := ⟨Nat.le_add_left 1 _, by show List.length _ ≤ 6; exact Nat.le_of_ble_eq_true rfl⟩
theorem std : Statement .std := ⟨Nat.le_add_left 1 _, by show List.length _ ≤ 6; exact Nat.le_of_ble_eq_true rfl⟩
theorem incRm (w : Width) (rm : Rm) : Statement (.incRm w rm) := cons_modrm _ _ _
theorem decRm (w : Width) (rm : Rm) : Statement (.decRm w rm) := cons_modrm _ _ _
theorem callInd (rm : Rm) : Statement (.callInd rm) := cons_modrm _ _ _
theorem callFarInd (rm : Rm) : Statement (.callFarInd rm) := cons_modrm _ _ _
theorem jmpInd (rm : Rm) : Statement (.jmpInd rm) := cons_modrm _ _ _
theorem jmpFarInd (rm : Rm) : Statement (.jmpFarInd rm) := cons_modrm _ _ _
theorem pushRm (rm : Rm) : Statement (.pushRm rm) := cons_modrm _ _ _
theorem pusha : Statement .pusha := ⟨Nat.le_add_left 1 _, by show List.length _ ≤ 6; exact Nat.le_of_ble_eq_true rfl⟩
theorem popa : Statement .popa := ⟨Nat.le_add_left 1 _, by show List.length _ ≤ 6; exact Nat.le_of_ble_eq_true rfl⟩
theorem pushImm16 (imm16 : Word) : Statement (.pushImm16 imm16) := ⟨Nat.le_add_left 1 _, Nat.le_of_ble_eq_true rfl⟩
theorem pushImm8 (imm8 : Byte) : Statement (.pushImm8 imm8) := ⟨Nat.le_add_left 1 _, by show List.length _ ≤ 6; exact Nat.le_of_ble_eq_true rfl⟩
theorem imul3 (r : Bits3) (rm : Rm) (imm16 : Word) : Statement (.imul3 r rm imm16) := cons_modrm_append _ _ _ _ (Nat.le_of_ble_eq_true rfl)
theorem imul3S (r : Bits3) (rm : Rm) (imm8 : Byte) : Statement (.imul3S r rm imm8) := cons_modrm_append _ _ _ _ (Nat.le_of_ble_eq_true rfl)
theorem ins (w : Width) : Statement (.ins w) := ⟨Nat.le_add_left 1 _, by show List.length _ ≤ 6; exact Nat.le_of_ble_eq_true rfl⟩
theorem outs (w : Width) : Statement (.outs w) := ⟨Nat.le_add_left 1 _, by show List.length _ ≤ 6; exact Nat.le_of_ble_eq_true rfl⟩
theorem rolImm (w : Width) (rm : Rm) (cnt : Byte) : Statement (.rolImm w rm cnt) := cons_modrm_append _ _ _ _ (Nat.le_of_ble_eq_true rfl)
theorem rorImm (w : Width) (rm : Rm) (cnt : Byte) : Statement (.rorImm w rm cnt) := cons_modrm_append _ _ _ _ (Nat.le_of_ble_eq_true rfl)
theorem rclImm (w : Width) (rm : Rm) (cnt : Byte) : Statement (.rclImm w rm cnt) := cons_modrm_append _ _ _ _ (Nat.le_of_ble_eq_true rfl)
theorem rcrImm (w : Width) (rm : Rm) (cnt : Byte) : Statement (.rcrImm w rm cnt) := cons_modrm_append _ _ _ _ (Nat.le_of_ble_eq_true rfl)
theorem shlImm (w : Width) (rm : Rm) (cnt : Byte) : Statement (.shlImm w rm cnt) := cons_modrm_append _ _ _ _ (Nat.le_of_ble_eq_true rfl)
theorem shrImm (w : Width) (rm : Rm) (cnt : Byte) : Statement (.shrImm w rm cnt) := cons_modrm_append _ _ _ _ (Nat.le_of_ble_eq_true rfl)
theorem sarImm (w : Width) (rm : Rm) (cnt : Byte) : Statement (.sarImm w rm cnt) := cons_modrm_append _ _ _ _ (Nat.le_of_ble_eq_true rfl)
theorem bsf (r : Bits3) (rm : Rm) : Statement (.bsf r rm) := cons_cons_modrm _ _ _ _
theorem bsr (r : Bits3) (rm : Rm) : Statement (.bsr r rm) := cons_cons_modrm _ _ _ _
theorem bt (rm : Rm) (r : Bits3) : Statement (.bt rm r) := cons_cons_modrm _ _ _ _
theorem bts (rm : Rm) (r : Bits3) : Statement (.bts rm r) := cons_cons_modrm _ _ _ _
theorem btr (rm : Rm) (r : Bits3) : Statement (.btr rm r) := cons_cons_modrm _ _ _ _
theorem btc (rm : Rm) (r : Bits3) : Statement (.btc rm r) := cons_cons_modrm _ _ _ _
theorem btImm (rm : Rm) (imm8 : Byte) : Statement (.btImm rm imm8) := cons_cons_modrm_append _ _ _ _ _
theorem btsImm (rm : Rm) (imm8 : Byte) : Statement (.btsImm rm imm8) := cons_cons_modrm_append _ _ _ _ _
theorem btrImm (rm : Rm) (imm8 : Byte) : Statement (.btrImm rm imm8) := cons_cons_modrm_append _ _ _ _ _
theorem btcImm (rm : Rm) (imm8 : Byte) : Statement (.btcImm rm imm8) := cons_cons_modrm_append _ _ _ _ _
theorem movsx (r : Bits3) (rm : Rm) : Statement (.movsx r rm) := cons_cons_modrm _ _ _ _
theorem movzx (r : Bits3) (rm : Rm) : Statement (.movzx r rm) := cons_cons_modrm _ _ _ _
theorem seto (rm : Rm) : Statement (.seto rm) := cons_cons_modrm _ _ _ _
theorem setno (rm : Rm) : Statement (.setno rm) := cons_cons_modrm _ _ _ _
theorem setb (rm : Rm) : Statement (.setb rm) := cons_cons_modrm _ _ _ _
theorem setae (rm : Rm) : Statement (.setae rm) := cons_cons_modrm _ _ _ _
theorem sete (rm : Rm) : Statement (.sete rm) := cons_cons_modrm _ _ _ _
theorem setne (rm : Rm) : Statement (.setne rm) := cons_cons_modrm _ _ _ _
theorem setbe (rm : Rm) : Statement (.setbe rm) := cons_cons_modrm _ _ _ _
theorem seta (rm : Rm) : Statement (.seta rm) := cons_cons_modrm _ _ _ _
theorem sets (rm : Rm) : Statement (.sets rm) := cons_cons_modrm _ _ _ _
theorem setns (rm : Rm) : Statement (.setns rm) := cons_cons_modrm _ _ _ _
theorem setp (rm : Rm) : Statement (.setp rm) := cons_cons_modrm _ _ _ _
theorem setnp (rm : Rm) : Statement (.setnp rm) := cons_cons_modrm _ _ _ _
theorem setl (rm : Rm) : Statement (.setl rm) := cons_cons_modrm _ _ _ _
theorem setge (rm : Rm) : Statement (.setge rm) := cons_cons_modrm _ _ _ _
theorem setle (rm : Rm) : Statement (.setle rm) := cons_cons_modrm _ _ _ _
theorem setg (rm : Rm) : Statement (.setg rm) := cons_cons_modrm _ _ _ _
theorem shldImm (rm : Rm) (r : Bits3) (cnt : Byte) : Statement (.shldImm rm r cnt) := cons_cons_modrm_append _ _ _ _ _
theorem shldCl (rm : Rm) (r : Bits3) : Statement (.shldCl rm r) := cons_cons_modrm _ _ _ _
theorem shrdImm (rm : Rm) (r : Bits3) (cnt : Byte) : Statement (.shrdImm rm r cnt) := cons_cons_modrm_append _ _ _ _ _
theorem shrdCl (rm : Rm) (r : Bits3) : Statement (.shrdCl rm r) := cons_cons_modrm _ _ _ _
theorem faddM32 (rm : Rm) : Statement (.faddM32 rm) := cons_modrm _ _ _
theorem faddM64 (rm : Rm) : Statement (.faddM64 rm) := cons_modrm _ _ _
theorem faddStSti (sti : Bits3) : Statement (.faddStSti sti) := cons_modrm _ _ _
theorem faddStiSt (sti : Bits3) : Statement (.faddStiSt sti) := cons_modrm _ _ _
theorem faddP : Statement .faddP := ⟨Nat.le_add_left 1 _, by show List.length _ ≤ 6; exact Nat.le_of_ble_eq_true rfl⟩
theorem fmulM32 (rm : Rm) : Statement (.fmulM32 rm) := cons_modrm _ _ _
theorem fmulM64 (rm : Rm) : Statement (.fmulM64 rm) := cons_modrm _ _ _
theorem fmulStSti (sti : Bits3) : Statement (.fmulStSti sti) := cons_modrm _ _ _
theorem fmulStiSt (sti : Bits3) : Statement (.fmulStiSt sti) := cons_modrm _ _ _
theorem fmulP : Statement .fmulP := ⟨Nat.le_add_left 1 _, by show List.length _ ≤ 6; exact Nat.le_of_ble_eq_true rfl⟩
theorem fsubM32 (rm : Rm) : Statement (.fsubM32 rm) := cons_modrm _ _ _
theorem fsubM64 (rm : Rm) : Statement (.fsubM64 rm) := cons_modrm _ _ _
theorem fsubStSti (sti : Bits3) : Statement (.fsubStSti sti) := cons_modrm _ _ _
theorem fsubStiSt (sti : Bits3) : Statement (.fsubStiSt sti) := cons_modrm _ _ _
theorem fsubP : Statement .fsubP := ⟨Nat.le_add_left 1 _, by show List.length _ ≤ 6; exact Nat.le_of_ble_eq_true rfl⟩
theorem fdivM32 (rm : Rm) : Statement (.fdivM32 rm) := cons_modrm _ _ _
theorem fdivM64 (rm : Rm) : Statement (.fdivM64 rm) := cons_modrm _ _ _
theorem fdivStSti (sti : Bits3) : Statement (.fdivStSti sti) := cons_modrm _ _ _
theorem fdivStiSt (sti : Bits3) : Statement (.fdivStiSt sti) := cons_modrm _ _ _
theorem fdivP : Statement .fdivP := ⟨Nat.le_add_left 1 _, by show List.length _ ≤ 6; exact Nat.le_of_ble_eq_true rfl⟩
theorem fiaddM16 (rm : Rm) : Statement (.fiaddM16 rm) := cons_modrm _ _ _
theorem fiaddM32 (rm : Rm) : Statement (.fiaddM32 rm) := cons_modrm _ _ _
theorem fimulM16 (rm : Rm) : Statement (.fimulM16 rm) := cons_modrm _ _ _
theorem fimulM32 (rm : Rm) : Statement (.fimulM32 rm) := cons_modrm _ _ _
theorem fisubM16 (rm : Rm) : Statement (.fisubM16 rm) := cons_modrm _ _ _
theorem fisubM32 (rm : Rm) : Statement (.fisubM32 rm) := cons_modrm _ _ _
theorem fidivM16 (rm : Rm) : Statement (.fidivM16 rm) := cons_modrm _ _ _
theorem fidivM32 (rm : Rm) : Statement (.fidivM32 rm) := cons_modrm _ _ _
theorem fildM16 (rm : Rm) : Statement (.fildM16 rm) := cons_modrm _ _ _
theorem fildM32 (rm : Rm) : Statement (.fildM32 rm) := cons_modrm _ _ _
theorem fildM64 (rm : Rm) : Statement (.fildM64 rm) := cons_modrm _ _ _
theorem fistM16 (rm : Rm) : Statement (.fistM16 rm) := cons_modrm _ _ _
theorem fistM32 (rm : Rm) : Statement (.fistM32 rm) := cons_modrm _ _ _
theorem fistpM16 (rm : Rm) : Statement (.fistpM16 rm) := cons_modrm _ _ _
theorem fistpM32 (rm : Rm) : Statement (.fistpM32 rm) := cons_modrm _ _ _
theorem fistpM64 (rm : Rm) : Statement (.fistpM64 rm) := cons_modrm _ _ _
theorem fldM32 (rm : Rm) : Statement (.fldM32 rm) := cons_modrm _ _ _
theorem fldM64 (rm : Rm) : Statement (.fldM64 rm) := cons_modrm _ _ _
theorem fldM80 (rm : Rm) : Statement (.fldM80 rm) := cons_modrm _ _ _
theorem fldSti (sti : Bits3) : Statement (.fldSti sti) := cons_modrm _ _ _
theorem fstM32 (rm : Rm) : Statement (.fstM32 rm) := cons_modrm _ _ _
theorem fstM64 (rm : Rm) : Statement (.fstM64 rm) := cons_modrm _ _ _
theorem fstSti (sti : Bits3) : Statement (.fstSti sti) := cons_modrm _ _ _
theorem fstpM32 (rm : Rm) : Statement (.fstpM32 rm) := cons_modrm _ _ _
theorem fstpM64 (rm : Rm) : Statement (.fstpM64 rm) := cons_modrm _ _ _
theorem fstpM80 (rm : Rm) : Statement (.fstpM80 rm) := cons_modrm _ _ _
theorem fstpSti (sti : Bits3) : Statement (.fstpSti sti) := cons_modrm _ _ _
theorem fbld (rm : Rm) : Statement (.fbld rm) := cons_modrm _ _ _
theorem fbstp (rm : Rm) : Statement (.fbstp rm) := cons_modrm _ _ _

end Sys2Proof.Laws.EncodedLength
end

