-- ==== Sys2Proof/Laws/Step.lean ====
section
/-! SUPPORT. The parts of a step, and the shared operations that may refuse, one lemma per outcome. -/

namespace Sys2Proof.Machine

/-! ## The step -/

theorem deliver_quiet {s : State} (h : s.env.inputs = []) : s.deliver = s := by simp [State.deliver, h]

theorem resetRequested_quiet {s : State} (h : s.env.inputs = []) : s.resetRequested = false := by
  simp [State.resetRequested, h]

/-- What an input leaves alone. -/
theorem deliver_frame (s : State) :
    s.deliver.regs = s.regs ∧ s.deliver.flags = s.flags ∧ s.deliver.ctl = s.ctl ∧ s.deliver.io = s.io ∧
      s.deliver.fpu = s.fpu ∧ s.deliver.draws = s.draws ∧ s.deliver.cfg = s.cfg := by
  unfold State.deliver
  split <;> simp

/-- The end of a step with nothing left over. -/
theorem settle_still {t : State} (h : t.still) (hh : t.env.held = []) : t.settle = t := by
  have h' : t.env.bus = [] := h
  obtain ⟨regs, flags, ctl, env, mem, io, fpu, draws, cfg⟩ := t
  obtain ⟨a, b, c, d, e, f, g, k⟩ := env
  subst h'
  subst hh
  unfold State.settle State.agentStores
  simp [State.drain, State.storeCells]

/-- Without a reset a step takes a recognised request, or goes on. -/
theorem step_cases {s : State} (h : s.resetRequested = false) :
    (∀ t, s.deliver.recognise = some t → step s = .next t.settle) ∧
      (s.deliver.recognise = none → step s = settled s.deliver.advanceStep) := by
  constructor
  · intro t ht
    simp [step, State.machineStep, State.respond, h, ht, settled]
  · intro ht
    simp [step, State.machineStep, State.respond, h, ht]

/-- Where no request is due, none is recognised. -/
theorem recognise_noRequest {s : State} (h : s.noRequest) : s.recognise = none := by
  rcases h with h | ⟨h, h' | h'⟩ <;> simp [State.recognise, *]

/-- Between a prefix and its opcode none is recognised. -/
theorem recognise_prefixed {s : State} (h : s.ctl.pfx ≠ Prefixes.empty) (hu : s.underWay = false) :
    s.recognise = none := by
  simp [State.recognise, State.atBoundary, h, hu]

/-! ## Operations that may refuse -/

theorem refuse_running {s : State} (h : s.resetReached = false) (r : Refusal) : s.refuse r = .refused r := by
  simp [State.refuse, h]

theorem refuse_reset {s : State} (h : s.resetReached = true) (r : Refusal) : s.refuse r = .next s := by
  simp [State.refuse, h]

/-- An 8087 memory form works on its operand after the two accesses of ESC's read. -/
theorem withEscMem_mem {s : State} {rm : Rm} {seg off : Word} (h : s.place rm = .mem seg off)
    (k : State → Word → Word → Result) : s.withEscMem rm k = k (s.accesses 2) seg off := by
  rw [State.withEscMem, State.withMem, State.escRead, State.rmAfter, h]
  rfl

theorem withMem_mem {s : State} {rm : Rm} {seg off : Word} (h : s.place rm = .mem seg off)
    (k : Word → Word → Result) : s.withMem rm k = k seg off := by rw [State.withMem, h]

theorem withMem_reg {s : State} {rm : Rm} {n : Bits3} (h : s.place rm = .reg n) (k : Word → Word → Result) :
    s.withMem rm k = .refused .registerOperand := by rw [State.withMem, h]

theorem withSt_some {s : State} {n : Nat} {v : TReal} (h : s.st n = some v) (k : TReal → Result) :
    s.withSt n k = k v := by rw [State.withSt, h]

theorem withSt_none {s : State} {n : Nat} (h : s.st n = none) (k : TReal → Result) :
    s.withSt n k = s.refuse .fpuStackEmpty := by rw [State.withSt, h]

theorem fpuPush_room {s : State} (h : s.fpu.getLast? = some none) (v : TReal) :
    s.fpuPush v = .next { s with fpu := some v :: s.fpu.dropLast } := by
  simp [State.fpuPush, State.fpuFull, h]

theorem fpuPush_full {s : State} (h : s.fpu.getLast? ≠ some none) (v : TReal) :
    s.fpuPush v = s.refuse .fpuStackFull := by
  simp [State.fpuPush, State.fpuFull, h]

/-! ## Repetition -/

theorem repeated_single {s : State} (h : s.ctl.pfx.rep = none) (i : Instr) (c : Bool) (once : State → State) :
    s.repeated i c once = once s := by rw [State.repeated, h]

theorem repeated_zero {s : State} {p : Rep} (h : s.ctl.pfx.rep = some p) (hc : s.regs.cx = 0) (i : Instr)
    (c : Bool) (once : State → State) : s.repeated i c once = s := by
  rw [State.repeated, h]; exact if_pos hc

end Sys2Proof.Machine
end

