-- ==== Sys2Proof/Tests/Slice0.lean ====
section
/-! SUPPORT. The model's own tests: refused terms, words written out from the spec's encodings, one-step tests
with the results of the spec's own examples, and for every statement a state and operands that meet its
hypotheses. -/

namespace Sys2Proof.Tests

open Sys2Proof.Machine

/-! ## Well-formedness: an ill-formed term for each check -/

theorem test_wellFormed_286 : (Instr.pusha).wellFormed config8086 = false := by decide
theorem test_wellFormed_386 : (Instr.movsx .b000 (.reg .b001)).wellFormed config80286 = false := by decide
theorem test_wellFormed_8087 : (Instr.faddP).wellFormed config8086 = false := by decide
theorem test_wellFormed_bpBase : (Instr.incRm .word (.base .bp)).wellFormed resetConfig = false := by decide
theorem test_wellFormed_memory : (Instr.lea .b000 (.reg .b001)).wellFormed resetConfig = false := by decide
theorem test_wellFormed_fpuMemory : (Instr.fldM32 (.reg .b001)).wellFormed resetConfig = false := by decide
theorem test_wellFormed_cs : (Instr.movSegRm .cs (.reg .b001)).wellFormed resetConfig = false := by decide
theorem test_wellFormed_xchg : (Instr.xchgAcc .b000).wellFormed resetConfig = false := by decide
theorem test_wellFormed_esc : (Instr.esc .b000 .b000 (.direct 0)).wellFormed resetConfig = false := by decide

/-! ## Decoding -/

/-- Every list of bytes decodes to its instruction, with nothing left. -/
def decodesAll (c : Config) (l : List (List Byte × Instr)) : Bool :=
  l.all fun p =>
    match decode c p.1 with
    | .ok (i, rest) => decide (i = p.2) && rest.isEmpty
    | .error _ => false

/-- Words written from the encodings of the opcode table: W, D and v are 1, REG is 011, the operand is [BP-2]. -/
theorem test_decode_transfer : decodesAll resetConfig [
    ([0x06], .pushEs),
    ([0x07], .popEs),
    ([0x0E], .pushCs),
    ([0x16], .pushSs),
    ([0x17], .popSs),
    ([0x1E], .pushDs),
    ([0x1F], .popDs),
    ([0x53], .pushReg .b011),
    ([0x5B], .popReg .b011),
    ([0x87, 0x5E, 0xFE], .xchgRm .word (.disp8 .bp 0xFE) .b011),
    ([0x8B, 0x5E, 0xFE], .movRm .toReg .word (.disp8 .bp 0xFE) .b011),
    ([0x8C, 0x56, 0xFE], .movRmSeg (.disp8 .bp 0xFE) .ss),
    ([0x8D, 0x5E, 0xFE], .lea .b011 (.disp8 .bp 0xFE)),
    ([0x8E, 0x56, 0xFE], .movSegRm .ss (.disp8 .bp 0xFE)),
    ([0x8F, 0x46, 0xFE], .popRm (.disp8 .bp 0xFE)),
    ([0x93], .xchgAcc .b011),
    ([0x9C], .pushf),
    ([0x9D], .popf),
    ([0x9E], .sahf),
    ([0x9F], .lahf),
    ([0xA1, 0x34, 0x12], .movAccMem .word 0x1234),
    ([0xA3, 0x34, 0x12], .movMemAcc .word 0x1234),
    ([0xBB, 0x34, 0x12], .movRegImm .word .b011 0x1234#16),
    ([0xC4, 0x5E, 0xFE], .les .b011 (.disp8 .bp 0xFE)),
    ([0xC5, 0x5E, 0xFE], .lds .b011 (.disp8 .bp 0xFE)),
    ([0xC7, 0x46, 0xFE, 0x34, 0x12], .movRmImm .word (.disp8 .bp 0xFE) 0x1234#16),
    ([0xD7], .xlat),
    ([0xE5, 0x85], .inFixed .word 0x85),
    ([0xE7, 0x85], .outFixed .word 0x85),
    ([0xED], .inDx .word),
    ([0xEF], .outDx .word),
    ([0xFF, 0x76, 0xFE], .pushRm (.disp8 .bp 0xFE))] = true := by decide

/-- Words written from the encodings of the opcode table: W, D and v are 1, REG is 011, the operand is [BP-2]. -/
theorem test_decode_arithmetic : decodesAll resetConfig [
    ([0x03, 0x5E, 0xFE], .addRm .toReg .word (.disp8 .bp 0xFE) .b011),
    ([0x05, 0x34, 0x12], .addAcc .word 0x1234#16),
    ([0x81, 0x46, 0xFE, 0x34, 0x12], .addImm .word (.disp8 .bp 0xFE) 0x1234#16),
    ([0x83, 0x46, 0xFE, 0x85], .addImmS (.disp8 .bp 0xFE) 0x85),
    ([0x13, 0x5E, 0xFE], .adcRm .toReg .word (.disp8 .bp 0xFE) .b011),
    ([0x15, 0x34, 0x12], .adcAcc .word 0x1234#16),
    ([0x81, 0x56, 0xFE, 0x34, 0x12], .adcImm .word (.disp8 .bp 0xFE) 0x1234#16),
    ([0x83, 0x56, 0xFE, 0x85], .adcImmS (.disp8 .bp 0xFE) 0x85),
    ([0x1B, 0x5E, 0xFE], .sbbRm .toReg .word (.disp8 .bp 0xFE) .b011),
    ([0x1D, 0x34, 0x12], .sbbAcc .word 0x1234#16),
    ([0x81, 0x5E, 0xFE, 0x34, 0x12], .sbbImm .word (.disp8 .bp 0xFE) 0x1234#16),
    ([0x83, 0x5E, 0xFE, 0x85], .sbbImmS (.disp8 .bp 0xFE) 0x85),
    ([0x2B, 0x5E, 0xFE], .subRm .toReg .word (.disp8 .bp 0xFE) .b011),
    ([0x2D, 0x34, 0x12], .subAcc .word 0x1234#16),
    ([0x81, 0x6E, 0xFE, 0x34, 0x12], .subImm .word (.disp8 .bp 0xFE) 0x1234#16),
    ([0x83, 0x6E, 0xFE, 0x85], .subImmS (.disp8 .bp 0xFE) 0x85),
    ([0x3B, 0x5E, 0xFE], .cmpRm .toReg .word (.disp8 .bp 0xFE) .b011),
    ([0x3D, 0x34, 0x12], .cmpAcc .word 0x1234#16),
    ([0x81, 0x7E, 0xFE, 0x34, 0x12], .cmpImm .word (.disp8 .bp 0xFE) 0x1234#16),
    ([0x83, 0x7E, 0xFE, 0x85], .cmpImmS (.disp8 .bp 0xFE) 0x85),
    ([0x27], .daa),
    ([0x2F], .das),
    ([0x37], .aaa),
    ([0x3F], .aas),
    ([0x43], .incReg .b011),
    ([0x4B], .decReg .b011),
    ([0x98], .cbw),
    ([0x99], .cwd),
    ([0xD4, 0x0A], .aam),
    ([0xD5, 0x0A], .aad),
    ([0xF7, 0x5E, 0xFE], .neg .word (.disp8 .bp 0xFE)),
    ([0xF7, 0x66, 0xFE], .mul .word (.disp8 .bp 0xFE)),
    ([0xF7, 0x6E, 0xFE], .imul .word (.disp8 .bp 0xFE)),
    ([0xF7, 0x76, 0xFE], .div .word (.disp8 .bp 0xFE)),
    ([0xF7, 0x7E, 0xFE], .idiv .word (.disp8 .bp 0xFE)),
    ([0xFF, 0x46, 0xFE], .incRm .word (.disp8 .bp 0xFE)),
    ([0xFF, 0x4E, 0xFE], .decRm .word (.disp8 .bp 0xFE))] = true := by decide

/-- Words written from the encodings of the opcode table: W, D and v are 1, REG is 011, the operand is [BP-2]. -/
theorem test_decode_logic : decodesAll resetConfig [
    ([0x0B, 0x5E, 0xFE], .orRm .toReg .word (.disp8 .bp 0xFE) .b011),
    ([0x0D, 0x34, 0x12], .orAcc .word 0x1234#16),
    ([0x81, 0x4E, 0xFE, 0x34, 0x12], .orImm .word (.disp8 .bp 0xFE) 0x1234#16),
    ([0x23, 0x5E, 0xFE], .andRm .toReg .word (.disp8 .bp 0xFE) .b011),
    ([0x25, 0x34, 0x12], .andAcc .word 0x1234#16),
    ([0x81, 0x66, 0xFE, 0x34, 0x12], .andImm .word (.disp8 .bp 0xFE) 0x1234#16),
    ([0x33, 0x5E, 0xFE], .xorRm .toReg .word (.disp8 .bp 0xFE) .b011),
    ([0x35, 0x34, 0x12], .xorAcc .word 0x1234#16),
    ([0x81, 0x76, 0xFE, 0x34, 0x12], .xorImm .word (.disp8 .bp 0xFE) 0x1234#16),
    ([0x85, 0x5E, 0xFE], .testRm .word (.disp8 .bp 0xFE) .b011),
    ([0xA9, 0x34, 0x12], .testAcc .word 0x1234#16),
    ([0xD3, 0x46, 0xFE], .rol .cl .word (.disp8 .bp 0xFE)),
    ([0xD3, 0x4E, 0xFE], .ror .cl .word (.disp8 .bp 0xFE)),
    ([0xD3, 0x56, 0xFE], .rcl .cl .word (.disp8 .bp 0xFE)),
    ([0xD3, 0x5E, 0xFE], .rcr .cl .word (.disp8 .bp 0xFE)),
    ([0xD3, 0x66, 0xFE], .shl .cl .word (.disp8 .bp 0xFE)),
    ([0xD3, 0x6E, 0xFE], .shr .cl .word (.disp8 .bp 0xFE)),
    ([0xD3, 0x7E, 0xFE], .sar .cl .word (.disp8 .bp 0xFE)),
    ([0xF7, 0x46, 0xFE, 0x34, 0x12], .testImm .word (.disp8 .bp 0xFE) 0x1234#16),
    ([0xF7, 0x56, 0xFE], .not .word (.disp8 .bp 0xFE))] = true := by decide

/-- Words written from the encodings of the opcode table: W, D and v are 1, REG is 011, the operand is [BP-2]. -/
theorem test_decode_strings : decodesAll resetConfig [
    ([0xA5], .movs .word),
    ([0xA7], .cmps .word),
    ([0xAB], .stos .word),
    ([0xAD], .lods .word),
    ([0xAF], .scas .word),
    ([0xF2], .repne),
    ([0xF3], .rep)] = true := by decide

/-- Words written from the encodings of the opcode table: W, D and v are 1, REG is 011, the operand is [BP-2]. -/
theorem test_decode_control : decodesAll resetConfig [
    ([0x70, 0x85], .jo 0x85),
    ([0x71, 0x85], .jno 0x85),
    ([0x72, 0x85], .jb 0x85),
    ([0x73, 0x85], .jae 0x85),
    ([0x74, 0x85], .je 0x85),
    ([0x75, 0x85], .jne 0x85),
    ([0x76, 0x85], .jbe 0x85),
    ([0x77, 0x85], .ja 0x85),
    ([0x78, 0x85], .js 0x85),
    ([0x79, 0x85], .jns 0x85),
    ([0x7A, 0x85], .jp 0x85),
    ([0x7B, 0x85], .jnp 0x85),
    ([0x7C, 0x85], .jl 0x85),
    ([0x7D, 0x85], .jge 0x85),
    ([0x7E, 0x85], .jle 0x85),
    ([0x7F, 0x85], .jg 0x85),
    ([0x9A, 0x34, 0x12, 0x78, 0x56], .callFar 0x1234 0x5678),
    ([0xC2, 0x34, 0x12], .retPop 0x1234),
    ([0xC3], .ret),
    ([0xCA, 0x34, 0x12], .retFarPop 0x1234),
    ([0xCB], .retFar),
    ([0xCC], .int3),
    ([0xCD, 0x85], .intN 0x85),
    ([0xCE], .into),
    ([0xCF], .iret),
    ([0xE0, 0x85], .loopne 0x85),
    ([0xE1, 0x85], .loope 0x85),
    ([0xE2, 0x85], .loop 0x85),
    ([0xE3, 0x85], .jcxz 0x85),
    ([0xE8, 0x34, 0x12], .callNear 0x1234),
    ([0xE9, 0x34, 0x12], .jmpNear 0x1234),
    ([0xEA, 0x34, 0x12, 0x78, 0x56], .jmpFar 0x1234 0x5678),
    ([0xEB, 0x85], .jmpShort 0x85),
    ([0xFF, 0x56, 0xFE], .callInd (.disp8 .bp 0xFE)),
    ([0xFF, 0x5E, 0xFE], .callFarInd (.disp8 .bp 0xFE)),
    ([0xFF, 0x66, 0xFE], .jmpInd (.disp8 .bp 0xFE)),
    ([0xFF, 0x6E, 0xFE], .jmpFarInd (.disp8 .bp 0xFE))] = true := by decide

/-- Words written from the encodings of the opcode table: W, D and v are 1, REG is 011, the operand is [BP-2]. -/
theorem test_decode_processor : decodesAll resetConfig [
    ([0x26], .segEs),
    ([0x2E], .segCs),
    ([0x36], .segSs),
    ([0x3E], .segDs),
    ([0x90], .nop),
    ([0x9B], .wait),
    ([0xF0], .lock),
    ([0xF4], .hlt),
    ([0xF5], .cmc),
    ([0xF8], .clc),
    ([0xF9], .stc),
    ([0xFA], .cli),
    ([0xFB], .sti),
    ([0xFC], .cld),
    ([0xFD], .std)] = true := by decide

/-- Words written from the encodings of the opcode table: W, D and v are 1, REG is 011, the operand is [BP-2]. -/
theorem test_decode_ext : decodesAll resetConfig [
    ([0x60], .pusha),
    ([0x61], .popa),
    ([0x68, 0x34, 0x12], .pushImm16 0x1234),
    ([0x6A, 0x85], .pushImm8 0x85),
    ([0x69, 0x5E, 0xFE, 0x34, 0x12], .imul3 .b011 (.disp8 .bp 0xFE) 0x1234),
    ([0x6B, 0x5E, 0xFE, 0x85], .imul3S .b011 (.disp8 .bp 0xFE) 0x85),
    ([0x6D], .ins .word),
    ([0x6F], .outs .word),
    ([0xC1, 0x46, 0xFE, 0x85], .rolImm .word (.disp8 .bp 0xFE) 0x85),
    ([0xC1, 0x4E, 0xFE, 0x85], .rorImm .word (.disp8 .bp 0xFE) 0x85),
    ([0xC1, 0x56, 0xFE, 0x85], .rclImm .word (.disp8 .bp 0xFE) 0x85),
    ([0xC1, 0x5E, 0xFE, 0x85], .rcrImm .word (.disp8 .bp 0xFE) 0x85),
    ([0xC1, 0x66, 0xFE, 0x85], .shlImm .word (.disp8 .bp 0xFE) 0x85),
    ([0xC1, 0x6E, 0xFE, 0x85], .shrImm .word (.disp8 .bp 0xFE) 0x85),
    ([0xC1, 0x7E, 0xFE, 0x85], .sarImm .word (.disp8 .bp 0xFE) 0x85),
    ([0x0F, 0xBC, 0x5E, 0xFE], .bsf .b011 (.disp8 .bp 0xFE)),
    ([0x0F, 0xBD, 0x5E, 0xFE], .bsr .b011 (.disp8 .bp 0xFE)),
    ([0x0F, 0xA3, 0x5E, 0xFE], .bt (.disp8 .bp 0xFE) .b011),
    ([0x0F, 0xAB, 0x5E, 0xFE], .bts (.disp8 .bp 0xFE) .b011),
    ([0x0F, 0xB3, 0x5E, 0xFE], .btr (.disp8 .bp 0xFE) .b011),
    ([0x0F, 0xBB, 0x5E, 0xFE], .btc (.disp8 .bp 0xFE) .b011),
    ([0x0F, 0xBA, 0x66, 0xFE, 0x85], .btImm (.disp8 .bp 0xFE) 0x85),
    ([0x0F, 0xBA, 0x6E, 0xFE, 0x85], .btsImm (.disp8 .bp 0xFE) 0x85),
    ([0x0F, 0xBA, 0x76, 0xFE, 0x85], .btrImm (.disp8 .bp 0xFE) 0x85),
    ([0x0F, 0xBA, 0x7E, 0xFE, 0x85], .btcImm (.disp8 .bp 0xFE) 0x85),
    ([0x0F, 0xBE, 0x5E, 0xFE], .movsx .b011 (.disp8 .bp 0xFE)),
    ([0x0F, 0xB6, 0x5E, 0xFE], .movzx .b011 (.disp8 .bp 0xFE)),
    ([0x0F, 0x90, 0x46, 0xFE], .seto (.disp8 .bp 0xFE)),
    ([0x0F, 0x91, 0x46, 0xFE], .setno (.disp8 .bp 0xFE)),
    ([0x0F, 0x92, 0x46, 0xFE], .setb (.disp8 .bp 0xFE)),
    ([0x0F, 0x93, 0x46, 0xFE], .setae (.disp8 .bp 0xFE)),
    ([0x0F, 0x94, 0x46, 0xFE], .sete (.disp8 .bp 0xFE)),
    ([0x0F, 0x95, 0x46, 0xFE], .setne (.disp8 .bp 0xFE)),
    ([0x0F, 0x96, 0x46, 0xFE], .setbe (.disp8 .bp 0xFE)),
    ([0x0F, 0x97, 0x46, 0xFE], .seta (.disp8 .bp 0xFE)),
    ([0x0F, 0x98, 0x46, 0xFE], .sets (.disp8 .bp 0xFE)),
    ([0x0F, 0x99, 0x46, 0xFE], .setns (.disp8 .bp 0xFE)),
    ([0x0F, 0x9A, 0x46, 0xFE], .setp (.disp8 .bp 0xFE)),
    ([0x0F, 0x9B, 0x46, 0xFE], .setnp (.disp8 .bp 0xFE)),
    ([0x0F, 0x9C, 0x46, 0xFE], .setl (.disp8 .bp 0xFE)),
    ([0x0F, 0x9D, 0x46, 0xFE], .setge (.disp8 .bp 0xFE)),
    ([0x0F, 0x9E, 0x46, 0xFE], .setle (.disp8 .bp 0xFE)),
    ([0x0F, 0x9F, 0x46, 0xFE], .setg (.disp8 .bp 0xFE)),
    ([0x0F, 0xA4, 0x5E, 0xFE, 0x85], .shldImm (.disp8 .bp 0xFE) .b011 0x85),
    ([0x0F, 0xA5, 0x5E, 0xFE], .shldCl (.disp8 .bp 0xFE) .b011),
    ([0x0F, 0xAC, 0x5E, 0xFE, 0x85], .shrdImm (.disp8 .bp 0xFE) .b011 0x85),
    ([0x0F, 0xAD, 0x5E, 0xFE], .shrdCl (.disp8 .bp 0xFE) .b011)] = true := by decide

/-- Words written from the encodings of the opcode table: W, D and v are 1, REG is 011, the operand is [BP-2]. -/
theorem test_decode_fpu : decodesAll resetConfig [
    ([0xD8, 0x46, 0xFE], .faddM32 (.disp8 .bp 0xFE)),
    ([0xDC, 0x46, 0xFE], .faddM64 (.disp8 .bp 0xFE)),
    ([0xD8, 0xC2], .faddStSti .b010),
    ([0xDC, 0xC2], .faddStiSt .b010),
    ([0xDE, 0xC1], .faddP),
    ([0xD8, 0x4E, 0xFE], .fmulM32 (.disp8 .bp 0xFE)),
    ([0xDC, 0x4E, 0xFE], .fmulM64 (.disp8 .bp 0xFE)),
    ([0xD8, 0xCA], .fmulStSti .b010),
    ([0xDC, 0xCA], .fmulStiSt .b010),
    ([0xDE, 0xC9], .fmulP),
    ([0xD8, 0x66, 0xFE], .fsubM32 (.disp8 .bp 0xFE)),
    ([0xDC, 0x66, 0xFE], .fsubM64 (.disp8 .bp 0xFE)),
    ([0xD8, 0xE2], .fsubStSti .b010),
    ([0xDC, 0xEA], .fsubStiSt .b010),
    ([0xDE, 0xE9], .fsubP),
    ([0xD8, 0x76, 0xFE], .fdivM32 (.disp8 .bp 0xFE)),
    ([0xDC, 0x76, 0xFE], .fdivM64 (.disp8 .bp 0xFE)),
    ([0xD8, 0xF2], .fdivStSti .b010),
    ([0xDC, 0xFA], .fdivStiSt .b010),
    ([0xDE, 0xF9], .fdivP),
    ([0xDE, 0x46, 0xFE], .fiaddM16 (.disp8 .bp 0xFE)),
    ([0xDA, 0x46, 0xFE], .fiaddM32 (.disp8 .bp 0xFE)),
    ([0xDE, 0x4E, 0xFE], .fimulM16 (.disp8 .bp 0xFE)),
    ([0xDA, 0x4E, 0xFE], .fimulM32 (.disp8 .bp 0xFE)),
    ([0xDE, 0x66, 0xFE], .fisubM16 (.disp8 .bp 0xFE)),
    ([0xDA, 0x66, 0xFE], .fisubM32 (.disp8 .bp 0xFE)),
    ([0xDE, 0x76, 0xFE], .fidivM16 (.disp8 .bp 0xFE)),
    ([0xDA, 0x76, 0xFE], .fidivM32 (.disp8 .bp 0xFE)),
    ([0xDF, 0x46, 0xFE], .fildM16 (.disp8 .bp 0xFE)),
    ([0xDB, 0x46, 0xFE], .fildM32 (.disp8 .bp 0xFE)),
    ([0xDF, 0x6E, 0xFE], .fildM64 (.disp8 .bp 0xFE)),
    ([0xDF, 0x56, 0xFE], .fistM16 (.disp8 .bp 0xFE)),
    ([0xDB, 0x56, 0xFE], .fistM32 (.disp8 .bp 0xFE)),
    ([0xDF, 0x5E, 0xFE], .fistpM16 (.disp8 .bp 0xFE)),
    ([0xDB, 0x5E, 0xFE], .fistpM32 (.disp8 .bp 0xFE)),
    ([0xDF, 0x7E, 0xFE], .fistpM64 (.disp8 .bp 0xFE)),
    ([0xD9, 0x46, 0xFE], .fldM32 (.disp8 .bp 0xFE)),
    ([0xDD, 0x46, 0xFE], .fldM64 (.disp8 .bp 0xFE)),
    ([0xDB, 0x6E, 0xFE], .fldM80 (.disp8 .bp 0xFE)),
    ([0xD9, 0xC2], .fldSti .b010),
    ([0xD9, 0x56, 0xFE], .fstM32 (.disp8 .bp 0xFE)),
    ([0xDD, 0x56, 0xFE], .fstM64 (.disp8 .bp 0xFE)),
    ([0xDD, 0xD2], .fstSti .b010),
    ([0xD9, 0x5E, 0xFE], .fstpM32 (.disp8 .bp 0xFE)),
    ([0xDD, 0x5E, 0xFE], .fstpM64 (.disp8 .bp 0xFE)),
    ([0xDB, 0x7E, 0xFE], .fstpM80 (.disp8 .bp 0xFE)),
    ([0xDD, 0xDA], .fstpSti .b010),
    ([0xDF, 0x66, 0xFE], .fbld (.disp8 .bp 0xFE)),
    ([0xDF, 0x76, 0xFE], .fbstp (.disp8 .bp 0xFE))] = true := by decide

/-- The same with W, D and v 0 and the operand DH or SI, MOD = 11. -/
theorem test_decode_fieldsZero : decodesAll resetConfig [
    ([0x00, 0xDE], .addRm .toRm .byte (.reg .b110) .b011),
    ([0x04, 0x85], .addAcc .byte 0x85#8),
    ([0x80, 0xC6, 0x85], .addImm .byte (.reg .b110) 0x85#8),
    ([0x08, 0xDE], .orRm .toRm .byte (.reg .b110) .b011),
    ([0x0C, 0x85], .orAcc .byte 0x85#8),
    ([0x80, 0xCE, 0x85], .orImm .byte (.reg .b110) 0x85#8),
    ([0x10, 0xDE], .adcRm .toRm .byte (.reg .b110) .b011),
    ([0x14, 0x85], .adcAcc .byte 0x85#8),
    ([0x80, 0xD6, 0x85], .adcImm .byte (.reg .b110) 0x85#8),
    ([0x18, 0xDE], .sbbRm .toRm .byte (.reg .b110) .b011),
    ([0x1C, 0x85], .sbbAcc .byte 0x85#8),
    ([0x80, 0xDE, 0x85], .sbbImm .byte (.reg .b110) 0x85#8),
    ([0x20, 0xDE], .andRm .toRm .byte (.reg .b110) .b011),
    ([0x24, 0x85], .andAcc .byte 0x85#8),
    ([0x80, 0xE6, 0x85], .andImm .byte (.reg .b110) 0x85#8),
    ([0x28, 0xDE], .subRm .toRm .byte (.reg .b110) .b011),
    ([0x2C, 0x85], .subAcc .byte 0x85#8),
    ([0x80, 0xEE, 0x85], .subImm .byte (.reg .b110) 0x85#8),
    ([0x30, 0xDE], .xorRm .toRm .byte (.reg .b110) .b011),
    ([0x34, 0x85], .xorAcc .byte 0x85#8),
    ([0x80, 0xF6, 0x85], .xorImm .byte (.reg .b110) 0x85#8),
    ([0x38, 0xDE], .cmpRm .toRm .byte (.reg .b110) .b011),
    ([0x3C, 0x85], .cmpAcc .byte 0x85#8),
    ([0x80, 0xFE, 0x85], .cmpImm .byte (.reg .b110) 0x85#8),
    ([0x84, 0xDE], .testRm .byte (.reg .b110) .b011),
    ([0x86, 0xDE], .xchgRm .byte (.reg .b110) .b011),
    ([0x88, 0xDE], .movRm .toRm .byte (.reg .b110) .b011),
    ([0xA0, 0x34, 0x12], .movAccMem .byte 0x1234),
    ([0xA2, 0x34, 0x12], .movMemAcc .byte 0x1234),
    ([0xA4], .movs .byte),
    ([0xA6], .cmps .byte),
    ([0xAA], .stos .byte),
    ([0xAC], .lods .byte),
    ([0xAE], .scas .byte),
    ([0xA8, 0x85], .testAcc .byte 0x85#8),
    ([0xB3, 0x85], .movRegImm .byte .b011 0x85#8),
    ([0xC6, 0xC6, 0x85], .movRmImm .byte (.reg .b110) 0x85#8),
    ([0xD0, 0xC6], .rol .one .byte (.reg .b110)),
    ([0xD0, 0xCE], .ror .one .byte (.reg .b110)),
    ([0xD0, 0xD6], .rcl .one .byte (.reg .b110)),
    ([0xD0, 0xDE], .rcr .one .byte (.reg .b110)),
    ([0xD0, 0xE6], .shl .one .byte (.reg .b110)),
    ([0xD0, 0xEE], .shr .one .byte (.reg .b110)),
    ([0xD0, 0xFE], .sar .one .byte (.reg .b110)),
    ([0xE4, 0x85], .inFixed .byte 0x85),
    ([0xE6, 0x85], .outFixed .byte 0x85),
    ([0xEC], .inDx .byte),
    ([0xEE], .outDx .byte),
    ([0xF6, 0xC6, 0x85], .testImm .byte (.reg .b110) 0x85#8),
    ([0xF6, 0xD6], .not .byte (.reg .b110)),
    ([0xF6, 0xDE], .neg .byte (.reg .b110)),
    ([0xF6, 0xE6], .mul .byte (.reg .b110)),
    ([0xF6, 0xEE], .imul .byte (.reg .b110)),
    ([0xF6, 0xF6], .div .byte (.reg .b110)),
    ([0xF6, 0xFE], .idiv .byte (.reg .b110)),
    ([0xFE, 0xC6], .incRm .byte (.reg .b110)),
    ([0xFE, 0xCE], .decRm .byte (.reg .b110)),
    ([0x6C], .ins .byte),
    ([0x6E], .outs .byte),
    ([0xC0, 0xC6, 0x85], .rolImm .byte (.reg .b110) 0x85),
    ([0xC0, 0xCE, 0x85], .rorImm .byte (.reg .b110) 0x85),
    ([0xC0, 0xD6, 0x85], .rclImm .byte (.reg .b110) 0x85),
    ([0xC0, 0xDE, 0x85], .rcrImm .byte (.reg .b110) 0x85),
    ([0xC0, 0xE6, 0x85], .shlImm .byte (.reg .b110) 0x85),
    ([0xC0, 0xEE, 0x85], .shrImm .byte (.reg .b110) 0x85),
    ([0xC0, 0xFE, 0x85], .sarImm .byte (.reg .b110) 0x85)] = true := by decide

/-- ESC, where there is no 8087. -/
theorem test_decode_esc : decodesAll config8086 [
    ([0xDD, 0x5E, 0xFE], .esc .b101 .b011 (.disp8 .bp 0xFE))] = true := by decide

/-! ## One step, with results that the spec gives -/

/-- A processor at 0000:0000 with some registers set. -/
def at0 (ax bx cx : Word) (code : List Byte) : State :=
  { State.reset with
    regs := { State.reset.regs with ax := ax, bx := bx, cx := cx, cs := 0, sp := 0x0100 } }.writeBytes 0 0 code

/-- A predicate of the next state. -/
def nextHas (r : Result) (p : State → Bool) : Bool :=
  match r with
  | .next t => p t
  | .fault _ => false
  | .refused _ => false

/-- `at0` with SI and DI at 0500h, and bus events for the step. -/
def sharing (code : List Byte) (bus : List BusEvent) : State :=
  let s := at0 0 0 0 code
  { s with
    regs := { s.regs with si := 0x500, di := 0x500 }
    env := { s.env with
      inputs := [{ reset := false, nmi := false, intr := .keep, testReady := none, writes := [], bus := bus }] } }

/-- The prefix LOCK has been noted. -/
def locking (s : State) : State :=
  { s with ctl := { s.ctl with pfx := { Prefixes.empty with lock := true } } }

/-- `at0` after a store to an address where a NOP stood before, which prefetch may still hold. -/
def stored (addr : Nat) (code : List Byte) : State :=
  let s := at0 0 0 0 code
  { s with ctl := { s.ctl with stale := [(addr, 0x90)] } }

/-- R470: BSF AX, BX with BX = 0048h gives AX = 0003h and ZF = 1 at the default parameter. -/
theorem test_bsf : nextHas (step (at0 0 0x0048 0 [0x0F, 0xBC, 0xC3]))
    (fun t => t.regs.ax == 0x0003 && t.flags.ZF && t.regs.ip == 3) = true := by decide
/-- R470: BSR AX, BX with BX = 0048h gives AX = 0006h. -/
theorem test_bsr : nextHas (step (at0 0 0x0048 0 [0x0F, 0xBD, 0xC3]))
    (fun t => t.regs.ax == 0x0006 && t.flags.ZF) = true := by decide
/-- R470: a source of 0 leaves AX and clears ZF. -/
theorem test_bsf_zero : nextHas (step (at0 0x1234 0 0 [0x0F, 0xBC, 0xC3]))
    (fun t => t.regs.ax == 0x1234 && !t.flags.ZF) = true := by decide
/-- R200: a push with SP = 0001h stores at FFFFh and, for the high byte, at 0000h. -/
theorem test_push_wraps : nextHas
    (exec (.pushImm16 0x1234) { State.reset with regs := { State.reset.regs with sp := 1, ss := 0x2000 } })
    (fun t => t.regs.sp == 0xFFFF && t.memByte 0x2FFFF == 0x34 && t.memByte 0x20000 == 0x12) = true := by decide
/-- R339: with CX = 0 on entry nothing is done. -/
theorem test_rep_zero : nextHas (exec (.stos .byte)
    { State.reset with ctl := { State.reset.ctl with pfx := { Prefixes.empty with rep := some .rep } } })
    (fun t => decide (t.mem = []) && t.regs.di == 0) = true := by decide
/-- R512: an instruction that began with TF = 1 ends in interrupt 1. -/
theorem test_singleStep : nextHas (step { at0 0 0 0 [0x90] with flags := { State.reset.flags with TF := true } })
    (fun t => t.regs.sp == 0x00FA && !t.flags.TF && t.read16 0 0x00FA == 0x0001) = true := by decide
/-- R60: the first instruction is fetched at FFFF0h. -/
theorem test_firstFetch : nextHas (step (State.reset.withFetchWord 8 0xF4))
    (fun t => decide (t.ctl.run = .halted) && t.regs.ip == 1 && t.memByte 0xFFFF0 == 0xF4) = true := by decide

/-- R150, R540: a reset before the second byte of 0F B7 is fetched; later, the bytes are refused. -/
theorem test_reset_before_refusal :
    nextHas (step (sharing [0x0F, 0xB7] [.stores [], .reset])) (fun t => t.regs.cs == 0xFFFF) = true ∧
    nextHas (step (sharing [0x0F, 0xB7] [.stores [], .stores [], .reset])) (fun _ => true) = false := by decide
/-- R420, R540: FLD on a full stack is refused, but not when the reset has come in the read of its operand. -/
theorem test_reset_in_operand :
    nextHas (exec (.fldM32 (.direct 0x500)) { State.reset with
      fpu := List.replicate 8 (some 9), env := { State.reset.env with bus := [.stores [], .reset] } })
      State.resetReached = true ∧
    nextHas (exec (.fldM32 (.direct 0x500)) { State.reset with fpu := List.replicate 8 (some 9) })
      (fun _ => true) = false := by decide
/-- R409, R420: the third access of FLD is the first of its operand, after the word that ESC reads. -/
theorem test_esc_read : nextHas (exec (.fldM80 (.direct 0x500))
    { State.reset with env := { State.reset.env with bus := [.stores [], .stores [], .stores [(0x500, 9)]] } })
    (fun t => decide (t.st 0 = some 9) && t.env.bus == []) = true := by decide
/-- D37: no store of another agent falls between the read and the write of XCHG, without LOCK. -/
theorem test_xchg_locked : nextHas (step (sharing
    [0x86, 0x04] [.stores [], .stores [], .stores [], .stores [(0x500, 9)]]))
    (fun t => t.regs.ax == 0 && t.memByte 0x500 == 9 && !t.ctl.busLock && t.env.held == []) = true := by decide
/-- D16: a shift of memory by 0 writes nothing, so what another agent stores after its read stays. -/
theorem test_shift_zero_agent : nextHas (step (sharing
    [0xD2, 0x24] [.stores [], .stores [], .stores [], .stores [(0x500, 9)]]))
    (fun t => t.memByte 0x500 == 9) = true := by decide
/-- D16, U1: a shift by a count of 0 changes no flag and not the operand. -/
theorem test_shift_zero : nextHas (step (at0 0x8001 0 0 [0xD3, 0xE0]))
    (fun t => t.regs.ax == 0x8001 && decide (t.flags = State.reset.flags) && t.draws == 0) = true := by decide
/-- R82, R534: CMPS of one byte with itself; another agent stores to it before the third access of the step,
that is after the fetch and the first read. -/
theorem test_agent_between_reads : nextHas (step (sharing [0xA6] [.stores [], .stores [], .stores [(0x500, 9)]]))
    (fun t => !t.flags.ZF && t.memByte 0x500 == 9) = true := by decide
/-- R92, R410: under LOCK the same store waits until the instruction has ended. -/
theorem test_agent_waits : nextHas (step (locking (sharing [0xA6] [.stores [], .stores [], .stores [(0x500, 9)]])))
    (fun t => t.flags.ZF && t.memByte 0x500 == 9 && !t.ctl.busLock) = true := by decide
/-- R540: a reset that comes after PUSH has stored its low byte leaves that byte and nothing else of it. -/
theorem test_reset_within : nextHas (step (sharing [0x68, 0x34, 0x12]
    [.stores [], .stores [], .stores [], .stores [], .reset]))
    (fun t => t.memByte 0x00FE == 0x34 && t.memByte 0x00FF == 0 && t.regs.cs == 0xFFFF && t.regs.ip == 0) = true := by
  decide
/-- R552: a jump discards what prefetch held. -/
theorem test_jump_discards : nextHas (step (stored 0x10 [0xEB, 0x05])) (fun t => t.ctl.stale == []) = true := by decide

/-! ## A state and operands for the hypotheses of every statement -/

/-- Some registers, flags and memory. -/
def sample : State :=
  { State.reset with
    regs := { State.reset.regs with
      ax := 0x1234, cx := 0x0003, dx := 0x0001, bx := 0x0200, sp := 0x0100, bp := 0x0180, si := 0x0010
      di := 0x0020, ip := 0x0010, es := 0x3000, cs := 0x0100, ss := 0x2000, ds := 0x1000 }
    flags := { State.reset.flags with CF := true, AF := true }
    mem := [(0x01010, 0x90), (0x10010, 0x05), (0x10200, 0x34), (0x10201, 0x12), (0x20100, 0x78)] }

/-- `sample` with another TF, IF and OF. -/
def flagged (tf i o : Bool) : State := { sample with flags := { sample.flags with TF := tf, IF := i, OF := o } }

/-- `sample` with a repeat prefix seen, and a count. -/
def repeating (p : Rep) (cx : Word) : State :=
  { sample with
    regs := { sample.regs with cx := cx }
    ctl := { sample.ctl with pfx := { Prefixes.empty with rep := some p } } }

/-- `sample` with a repetition under way. -/
def suspended : State :=
  { repeating .rep 3 with
    ctl := { (repeating .rep 3).ctl with startIp := 0x0010, resume := some ⟨.movs .byte, 0x0012⟩ } }

/-- `sample` with pending requests. -/
def requested (nmi intr : Bool) (s : State) : State :=
  { s with env := { s.env with nmiPending := nmi, intrPending := intr } }

/-- R48, R510, R339: in the shadow a repetition goes on although a request is pending, and the shadow stands where
it stands through iterations. -/
theorem test_shadow_stands : ∃ t,
    step (requested true false { suspended with ctl := { suspended.ctl with inhibit := true } }) = .next t ∧
      t.regs.cx = 2 ∧ t.env.nmiPending = true ∧ t.ctl.inhibit = Config.shadowStands := by
  cases h : Config.shadowStands
  all_goals
    refine ⟨_, rfl, rfl, rfl, ?_⟩
    show (true && Config.shadowStands && true) = _
    rw [h]
    rfl
/-- R48, R339: after its last iteration the shadow is over, and the request still pending. -/
theorem test_shadow_ends :
    nextHas (step (requested true false { suspended with
        regs := { suspended.regs with cx := 1 }, ctl := { suspended.ctl with inhibit := true } }))
      (fun t => t.regs.cx == 0 && !t.ctl.inhibit && t.env.nmiPending && t.ctl.resume == none) = true := by decide

/-- `sample` with another run state, TEST_ready false. -/
def idle (r : RunState) : State :=
  { sample with ctl := { sample.ctl with run := r }, env := { sample.env with testReady := false } }

/-- `sample` with the bus locked, and a store of another agent to come. -/
def lockedOne : State :=
  { sample with
    ctl := { sample.ctl with busLock := true }, env := { sample.env with bus := [.stores [(0x500, 1)]] } }

/-- `sample` with two values on the 8087 stack. -/
def stacked : State := { sample with fpu := [some 5, some 7] ++ List.replicate 6 none }

/-- `sample` in which the reset has come. -/
def resetting : State := { sample with env := { sample.env with bus := [.reset] } }

/-- `sample` with a full 8087 stack. -/
def full : State := { sample with fpu := List.replicate 8 (some 9) }

theorem witness_DecodeEncode :
    (Instr.addRm .toReg .word (.disp8 .bp 0xFE) .b000).wellFormed config8086 = true ∧
    (Instr.fbstp (.direct 0xFFFF)).wellFormed resetConfig = true := by decide
theorem witness_DecodeSound : decode config8086 [0x8D, 0x47, 0xFF, 0x90] =
    .ok (.lea .b000 (.disp8 .bx 0xFF), [0x90]) := by rfl
theorem witness_EncodingsRefused :
    config8086.level = .l8086 ∧ config80286.level = .l80286 ∧ (0x08 : Byte).toNat / 8 % 8 = 1 ∧
    (0x1F : Byte).toNat / 8 % 8 < 4 ∧ (0x0B : Byte) ≠ 0x0A ∧ 0xC0 ≤ (0xC0 : Byte).toNat ∧
    0xC0 ≤ (0xD8 : Byte).toNat ∧ (0xD8 : Byte).toNat / 8 % 8 = 3 ∧ (0xEF : Byte).toNat / 8 % 8 = 5 ∧
    (0xB7 : Byte).toNat / 16 ≠ 9 ∧ (0x9F : Byte).toNat / 16 = 9 ∧ (0xB7 : Byte) ∉
      ([0xA3, 0xA4, 0xA5, 0xAB, 0xAC, 0xAD, 0xB3, 0xB6, 0xBA, 0xBB, 0xBC, 0xBD, 0xBE] : List Byte) := by decide
theorem witness_StepRuns :
    sample.ready ∧ sample.deliver.noRequest ∧ sample.deliver.ctl.pfx.rep = none ∧
    sample.deliver.ctl.stale = [] ∧
    decode sample.deliver.cfg sample.deliver.fetchBytes = .ok (.nop, [0, 0, 0, 0, 0]) ∧
    (sample.deliver.fetched .nop [0, 0, 0, 0, 0]).resetReached = false ∧
    exec .nop (sample.deliver.fetched .nop [0, 0, 0, 0, 0]) =
      .next (sample.deliver.fetched .nop [0, 0, 0, 0, 0]) := by
  refine ⟨⟨rfl, rfl, rfl⟩, .inr ⟨rfl, .inl rfl⟩, rfl, rfl, rfl, rfl, rfl⟩
theorem witness_StepRuns_repeat :
    (repeating .rep 3).ready ∧ (repeating .rep 3).ctl.pfx ≠ Prefixes.empty ∧
    decode (repeating .rep 3).cfg (repeating .rep 3).fetchBytes = .ok (.nop, [0, 0, 0, 0, 0]) ∧
    (repeating .rep 3).ctl.pfx.rep.isSome = true ∧ isPrefix .nop = false ∧ isString .nop = false := by
  refine ⟨⟨rfl, rfl, rfl⟩, by decide, rfl, rfl, rfl, rfl⟩
theorem witness_StepRuns_refused :
    exec .rep ((repeating .rep 3).fetched .rep []) = .refused .duplicatePrefix ∧ isPrefix .rep = true := ⟨rfl, rfl⟩
/-- The bytes 0F B7 at CS:IP. -/
theorem witness_StepRuns_undecodable :
    (sharing [0x0F, 0xB7] []).ready ∧ (sharing [0x0F, 0xB7] []).deliver.noRequest ∧
    decode (sharing [0x0F, 0xB7] []).cfg (sharing [0x0F, 0xB7] []).deliver.fetchBytes = .error .undefinedOpcode ∧
    DecodeError.undefinedOpcode ≠ .truncated :=
  ⟨⟨rfl, rfl, rfl⟩, .inr ⟨rfl, .inl rfl⟩, rfl, by decide⟩
/-- A reset before the second byte is fetched. -/
theorem witness_StepRuns_cut :
    (sharing [0x68, 0x34, 0x12] [.stores [], .reset]).ready ∧
    (sharing [0x68, 0x34, 0x12] [.stores [], .reset]).deliver.noRequest ∧
    ((sharing [0x68, 0x34, 0x12] [.stores [], .reset]).deliver.accesses 1).resetReached = true ∧
    (sharing [0x68, 0x34, 0x12] [.stores [], .reset]).deliver.fetchBytes.length < 6 ∧
    decode resetConfig (sharing [0x68, 0x34, 0x12] [.stores [], .reset]).deliver.fetchBytes = .error .truncated :=
  ⟨⟨rfl, rfl, rfl⟩, .inr ⟨rfl, .inl rfl⟩, rfl, by decide, rfl⟩
/-- A reset between the fetch and the meaning. -/
theorem witness_StepRuns_reset :
    (sharing [0x68, 0x34, 0x12] [.stores [], .stores [], .stores [], .reset]).ready ∧
    decode resetConfig (sharing [0x68, 0x34, 0x12] [.stores [], .stores [], .stores [], .reset]).deliver.fetchBytes =
      .ok (.pushImm16 0x1234, []) ∧
    ((sharing [0x68, 0x34, 0x12] [.stores [], .stores [], .stores [], .reset]).deliver.fetched (.pushImm16 0x1234)
      []).resetReached = true := ⟨⟨rfl, rfl, rfl⟩, rfl, rfl⟩
theorem witness_StepsUnderWay :
    suspended.resetRequested = false ∧ suspended.deliver.noRequest ∧ suspended.deliver.ctl.run = .running ∧
    isString (.movs .byte) = true ∧ suspended.deliver.ctl.resume = some ⟨.movs .byte, 0x0012⟩ ∧
    suspended.deliver.resetReached = false ∧
    ∃ t, exec (.movs .byte) { suspended.deliver with
        regs := { suspended.deliver.regs with ip := 0x0012 }
        ctl := { suspended.deliver.ctl with
          resume := none, inhibit := false, busLock := suspended.deliver.ctl.pfx.lock } } = .next t :=
  ⟨rfl, .inr ⟨rfl, .inl rfl⟩, rfl, rfl, rfl, rfl, _, rfl⟩
theorem witness_StepsUnderWay_idle :
    (idle .halted).resetRequested = false ∧ (idle .halted).deliver.noRequest ∧
    (idle .halted).deliver.ctl.run = .halted ∧ (idle .halted).deliver.ctl.pfx = Prefixes.empty ∧
    (idle (.waiting 5)).deliver.ctl.run = .waiting 5 ∧ (idle (.waiting 5)).deliver.env.testReady = false ∧
    (idle (.waiting 5)).deliver.cfg.has8087 = true ∧ sample.deliver.env.testReady = true :=
  ⟨rfl, .inr ⟨rfl, .inl rfl⟩, rfl, rfl, rfl, rfl, rfl, rfl⟩
/-- An input that requests, raises, and stores; and a locked repetition, for which the stores wait. -/
theorem witness_EnvironmentInputs :
    let e : Input := { reset := false, nmi := true, intr := .request 9, testReady := some false,
                       writes := [(0x500, 1)], bus := [.stores [(0x501, 2)]] }
    let s : State := { sample with env := { sample.env with inputs := [e, e] } }
    s.env.inputs = e :: [e] ∧ s.ctl.busLock = false ∧ s.deliver.env.intrType = 9 ∧
    (∀ x ∈ s.deliver.env.bus, x ≠ .reset) ∧ s.deliver.ctl.busLock = false ∧ lockedOne.ctl.busLock = true ∧
    sample.still ∧ sample.env.held = [] := by
  refine ⟨rfl, rfl, rfl, by decide, rfl, rfl, rfl, rfl⟩
theorem witness_BusAccesses :
    lockedOne.env.bus = [.stores [(0x500, 1)]] ∧ lockedOne.ctl.busLock = true ∧
    (∀ x ∈ lockedOne.env.bus, x ≠ .reset) ∧
    ({ lockedOne with ctl := { lockedOne.ctl with busLock := false } }).ctl.busLock = false ∧
    resetting.env.bus = .reset :: [] ∧ sample.still := by
  refine ⟨rfl, rfl, by decide, rfl, rfl, rfl⟩
/-- The first and the last address of the window, and the first after it. -/
theorem witness_PrefetchWindow :
    phys sample.cfg sample.regs.cs (sample.regs.ip + BitVec.ofNat 16 0) = 0x1010 ∧ sample.cfg.prefetchBytes = 6 ∧
    phys sample.cfg sample.regs.cs (sample.regs.ip + BitVec.ofNat 16 5) = 0x1015 ∧
    (∀ j, j < sample.cfg.prefetchBytes →
      0x1016 ≠ phys sample.cfg sample.regs.cs (sample.regs.ip + BitVec.ofNat 16 j)) ∧
    (stored 0 [0x90]).ctl.stale = [(phys resetConfig (stored 0 [0x90]).regs.cs
      ((stored 0 [0x90]).regs.ip + BitVec.ofNat 16 0), 0x90)] := by decide
theorem witness_InvKept : sample.inv = true ∧ suspended.inv = true ∧ nextHas (step sample) State.inv = true ∧
    nextHas (step suspended) State.inv = true := by decide
theorem witness_ResetEvent :
    let e : Input := { reset := true, nmi := false, intr := .keep, testReady := none, writes := [(0x500, 1)],
                       bus := [.stores [(0x501, 2)]] }
    ({ sample with env := { sample.env with inputs := [e] } }).env.inputs = e :: [] ∧ e.reset = true ∧
      ({ sample with env := { sample.env with bus := [.reset] } }).env.bus = .reset :: [] := ⟨rfl, rfl, rfl⟩
theorem witness_InterruptEntry : sample.still ∧ sample.memOk = true ∧
    ∀ k, k < 4 → (sample.cfg.ivtBase + 4 * (0x21 : Byte).toNat + k) % 2 ^ sample.cfg.physBits ∉
      bytesAt sample.cfg sample.regs.ss (sample.regs.sp - 6) 6 := by decide
theorem witness_InterruptReturn : sample.still ∧ sample.memOk = true := by decide
theorem witness_SoftwareInterrupts :
    (flagged false false true).flags.OF = true ∧ sample.flags.OF = false := ⟨rfl, rfl⟩
theorem witness_RequestTaken :
    let s := (requested true false sample).deliver
    let t := (requested false true (flagged false true false)).deliver
    (requested true false sample).resetRequested = false ∧ s.ctl.inhibit = false ∧ s.ctl.pfx = Prefixes.empty ∧
    s.ctl.resume = none ∧ s.env.nmiPending = true ∧
    (requested false true (flagged false true false)).resetRequested = false ∧ t.ctl.inhibit = false ∧
    t.ctl.pfx = Prefixes.empty ∧ t.ctl.resume = none ∧ t.env.nmiPending = false ∧ t.env.intrPending = true ∧
    t.flags.IF = true := by decide
theorem witness_RequestTaken_suspended :
    let s := (requested true false { suspended with flags := (flagged true false false).flags }).deliver
    s.ctl.inhibit = false ∧ s.underWay = true ∧ s.ctl.resume.isSome = true ∧
    s.flags.TF = true ∧ s.env.nmiPending = true := by decide
theorem witness_ControlFlagAndSegmentWriters :
    (∃ t, exec .iret sample = .next t) ∧ ∃ t, exec .retFar sample = .next t := ⟨⟨_, rfl⟩, _, rfl⟩
theorem witness_UnitsApart :
    (∃ t, exec .faddP stacked = .next t) ∧ (Instr.faddP).part = .fpu8087 ∧
    (∃ t, exec .nop sample = .next t) ∧ (Instr.nop).part ≠ .fpu8087 := ⟨⟨_, rfl⟩, rfl, ⟨_, rfl⟩, by decide⟩
theorem witness_MemoryAccess : sample.still ∧ sample.memOk = true ∧ sample.cfg = sample.cfg := by decide
theorem witness_StackOperations : sample.still ∧ sample.memOk = true := by decide
theorem witness_OperandPlace : sample.ctl.pfx.seg = none ∧
    ({ sample with ctl := { sample.ctl with pfx := { Prefixes.empty with seg := some .es } } }).ctl.pfx.seg =
      some .es := ⟨rfl, rfl⟩
theorem witness_MovWritesDestination : sample.still ∧ sample.memOk = true := by decide
theorem witness_ShadowSetters : sample.still ∧ SReg.ss ≠ SReg.cs := by decide
theorem witness_AddressLoads : sample.still ∧ sample.place (.base .bx) = .mem 0x1000 0x0200 := by decide
theorem witness_InOut : sample.still := rfl
theorem witness_ExtensionsKeepValue : sample.still := rfl
theorem witness_RegisterOperandsRefused :
    Instr.lea .b000 (.reg .b001) ∈
      [Instr.lea .b000 (.reg .b001), .les .b000 (.reg .b001), .lds .b000 (.reg .b001)] := by decide
theorem witness_PushStoresOperand : sample.still ∧ sample.memOk = true := by decide
theorem witness_PopLoadsOperand : sample.still ∧ sample.memOk = true := by decide
theorem witness_FlagTransferAndExchange : sample.still ∧ sample.memOk = true := by decide
theorem witness_AddWritesSumAndFlags : sample.still ∧ sample.memOk = true ∧ sample.flags.CF.toNat = 1 := by decide
theorem witness_SubtractWritesDifferenceAndFlags : sample.still ∧ sample.memOk = true ∧ sample.flags.CF.toNat = 1 := by decide
theorem witness_IncDecNeg : sample.still ∧ sample.memOk = true := by decide
theorem witness_MultiplyGivesProduct :
    sample.still ∧
    255 * 255 = (0xFF : Byte).toNat * (0xFF : Byte).toNat ∧
    (-128 : Int) * -128 = (0x80 : Byte).toInt * (0x80 : Byte).toInt := by decide

/-- `sample` with a dividend in DX:AX and a divisor in BX. -/
def dividing (dx ax bx : Word) : State :=
  { sample with regs := { sample.regs with dx := dx, ax := ax, bx := bx } }

/-- 255 by 1 (DIV byte), 65535 by 1 (DIV word), -128 by 1 and -32768 by 1 (IDIV): the quotients at the end
of their range. -/
theorem witness_DivideGivesQuotient :
    (dividing 0 0x00FF 1).still ∧
    (let s := dividing 0 0x00FF 1
     divides s.regs.ax.toNat (s.rmRead .byte (.reg .b011)).toNat 255 0 0 255) ∧
    (let s := dividing 0 0xFFFF 1
     divides (s.regs.dx ++ s.regs.ax).toNat (s.rmRead .word (.reg .b011)).toNat 65535 0 0 65535) ∧
    (let s := dividing 0xFFFF 0xFF80 1
     divides s.regs.ax.toInt (s.rmRead .byte (.reg .b011)).toInt (-128) 0 (leastQuotient s.cfg (-128)) 127) ∧
    (let s := dividing 0xFFFF 0x8000 1
     divides (s.regs.dx ++ s.regs.ax).toInt (s.rmRead .word (.reg .b011)).toInt (-32768) 0
       (leastQuotient s.cfg (-32768)) 32767) := by decide
/-- 256 by 1 (DIV byte), 65536 by 1 (DIV word), 128 by 1 and 32768 by 1 (IDIV), and a divisor of 0. -/
theorem witness_DivideErrorTakesInterrupt :
    (dividing 0 256 1).still ∧
    (let s := dividing 0 256 1
     divideFails s.regs.ax.toNat (s.rmRead .byte (.reg .b011)).toNat 256 0 0 255) ∧
    (let s := dividing 1 0 1
     divideFails (s.regs.dx ++ s.regs.ax).toNat (s.rmRead .word (.reg .b011)).toNat 65536 0 0 65535) ∧
    (let s := dividing 0 128 1
     divideFails s.regs.ax.toInt (s.rmRead .byte (.reg .b011)).toInt 128 0 (leastQuotient s.cfg (-128)) 127) ∧
    (let s := dividing 0 0x8000 1
     divideFails (s.regs.dx ++ s.regs.ax).toInt (s.rmRead .word (.reg .b011)).toInt 32768 0
       (leastQuotient s.cfg (-32768)) 32767) ∧
    (let s := dividing 0 5 0
     divideFails s.regs.ax.toNat (s.rmRead .byte (.reg .b011)).toNat 0 0 0 255) := by decide
theorem witness_DecimalAdjustments : (sample.regs.get8 .b000).toNat = 0x34 ∧ (sample.regs.get8 .b100).toNat = 0x12 := by
  decide
theorem witness_LogicWritesResultAndFlags : sample.still ∧ sample.memOk = true := by decide
theorem witness_ShiftByCount : sample.still ∧ sample.memOk = true ∧ clCount sample = 3 ∧ byteCount sample 0x21 = 1 ∧
    byteCount sample 0x20 = 0 := by decide
theorem witness_RotateByCount : sample.still ∧ sample.memOk = true ∧ byteCount sample 0x01 = 1 ∧
    byteCount sample 0x1F = 31 ∧ byteCount sample 0x20 = 0 := by decide
theorem witness_RotateThroughCarry : sample.still ∧ sample.memOk = true ∧ byteCount sample 0x01 = 1 ∧
    byteCount sample 0x20 = 0 := by decide
theorem witness_StringOperations : sample.still ∧ sample.memOk = true ∧ sample.ctl.pfx.rep = none := by decide
/-- Nothing to do, the last operation, an operation with others to come, and a comparison that ends it. -/
theorem witness_Repetition :
    (repeating .rep 0).ctl.pfx.rep = some .rep ∧ (repeating .rep 0).regs.cx = 0 ∧
    isString (.cmps .byte) = true ∧ (repeating .rep 1).regs.cx = 1 ∧ (repeating .rep 2).regs.cx ≠ 0 ∧
    (repeating .rep 2).regs.cx ≠ 1 ∧
    nextHas (exec (.cmps .byte) { repeating .rep 2 with
      ctl := { (repeating .rep 2).ctl with pfx := Prefixes.empty } }) (fun u => !u.flags.ZF) = true := by decide
theorem witness_CallPushesReturnAddress : sample.still ∧ sample.memOk = true ∧ sample.place (.base .bx) = .mem 0x1000 0x0200 := by decide
theorem witness_ReturnAndJump : sample.still ∧ sample.place (.direct 0xFFFF) = .mem 0x1000 0xFFFF := by decide
theorem witness_ConditionalJumpsAndSets : sample.still ∧ sample.flags.CF = true ∧ sample.flags.ZF = false ∧ sample.memOk = true := by decide
/-- Taken, over, and the counts 1 and 0; ZF is clear. -/
theorem witness_LoopsCountDown :
    (repeating .rep 0).regs.cx = 0 ∧ sample.regs.cx ≠ 0 ∧ sample.regs.cx ≠ 1 ∧ (repeating .rep 1).regs.cx = 1 ∧
    (!sample.flags.ZF) = true ∧ sample.flags.ZF = false := by decide
theorem witness_ProcessorControl : sample.still ∧ sample.env.testReady = true ∧ (idle .running).env.testReady = false ∧
    (idle .running).cfg.has8087 = true ∧ config8086.has8087 = false := by decide
theorem witness_PrefixesNoted :
    sample.ctl.pfx.rep = none ∧ sample.ctl.pfx.seg = none ∧ sample.ctl.pfx.lock = false ∧
    (repeating .repne 1).ctl.pfx.rep ≠ none ∧
    ({ Prefixes.empty with seg := some SReg.ds, lock := true } : Prefixes).seg ≠ none ∧
    ({ Prefixes.empty with lock := true } : Prefixes).lock = true := by decide
theorem witness_PushaPopa : sample.still ∧ sample.memOk = true := by decide
theorem witness_BitScanFindsBit : sample.still ∧ sample.rmRead .word (.direct 0) = 0 ∧
    (sample.rmRead .word (.base .bx)).getLsbD 2 = true ∧
    (∀ m, m < 2 → (sample.rmRead .word (.base .bx)).getLsbD m = false) ∧
    (sample.rmRead .word (.base .bx)).getLsbD 12 = true := by decide
theorem witness_BitScanFindsBit_top (m : Nat) (h : 12 < m) :
    (sample.rmRead .word (.base .bx)).getLsbD m = false := by
  rw [show sample.rmRead .word (.base .bx) = 0x1234#16 by decide]
  by_cases hm : m < 16
  · interval_cases m <;> rfl
  · exact BitVec.getLsbD_of_ge _ _ (by simpa using hm)
theorem witness_BitTestAndChange : sample.still ∧ sample.memOk = true := by decide
theorem witness_DoubleShiftByCount : sample.still ∧ sample.memOk = true ∧ (0x20 : Byte).toNat % 32 = 0 ∧
    (0x01 : Byte).toNat % 32 = 1 ∧ (0x10 : Byte).toNat % 32 = 16 ∧ (0x11 : Byte).toNat % 32 = 17 := by decide
theorem witness_FpuArithmetic : stacked.still ∧ stacked.st 0 = some 5 ∧ stacked.st 1 = some 7 ∧ stacked.st 2 = none ∧
    sample.st 0 = none ∧ stacked.place (.direct 4) = .mem 0x1000 4 ∧ sample.resetReached = false ∧
    (sample.accesses 6).resetReached = false ∧ (resetting.accesses 6).resetReached = true ∧
    resetting.resetReached = true ∧ resetting.st 0 = none := by decide
theorem witness_FpuLoadPushes : stacked.still ∧ stacked.place (.direct 4) = .mem 0x1000 4 ∧ stacked.fpu.getLast? = some none ∧
    stacked.st 1 = some 7 ∧ stacked.st 7 = none ∧ full.st 7 = some 9 ∧
    (full.accesses 6).resetReached = false ∧ (∀ e ∈ full.fpu, e ≠ none) := by
  refine ⟨rfl, by decide, by decide, by decide, by decide, by decide, by decide, ?_⟩
  intro e he
  rw [List.eq_of_mem_replicate he]
  exact Option.some_ne_none _
theorem witness_FpuStoreWrites : stacked.still ∧ stacked.memOk = true ∧ stacked.place (.direct 4) = .mem 0x1000 4 ∧
    stacked.st 0 = some 5 ∧ sample.st 0 = none ∧ Bits3.b111.bits.toNat < stacked.fpu.length ∧
    ({ stacked with fpu := [some 5] }).st 0 = some 5 ∧
    ({ stacked with fpu := [some 5] }).fpu.length ≤ Bits3.b001.bits.toNat := by decide

end Sys2Proof.Tests
end

section
/-! SUPPORT. What the environment does to the state: the stores of other agents as one write of memory, and
the bus events that are left at the end of a step. -/

namespace Sys2Proof.Machine

/-! ## Stores of other agents -/

theorem storedBy_cons (c : Config) (m : List Host.Cell) (x : Host.Cell) (l : List Host.Cell) :
    storedBy c m (x :: l) = storedBy c (Memory.write m (x.1 % 2 ^ c.physBits) x.2) l := rfl

theorem storeCells_eq (s : State) (l : List Host.Cell) :
    s.storeCells l = { s with mem := storedBy s.cfg s.mem l } := by
  induction l generalizing s with
  | nil => rfl
  | cons x l ih =>
    rw [State.storeCells, ih, storedBy_cons]
    rfl

theorem storedBy_append (c : Config) (m l k : List Host.Cell) :
    storedBy c m (l ++ k) = storedBy c (storedBy c m l) k := List.foldl_append

theorem agentStores_free {s : State} (h : s.ctl.busLock = false) (l : List Host.Cell) :
    s.agentStores l = { s with
      env := { s.env with held := [] }, mem := storedBy s.cfg s.mem (s.env.held ++ l) } := by
  simp [State.agentStores, h, storeCells_eq]

theorem agentStores_locked {s : State} (h : s.ctl.busLock = true) (l : List Host.Cell) :
    s.agentStores l = { s with env := { s.env with held := s.env.held ++ l } } := by
  simp [State.agentStores, h]

/-- Stores that come one after the other are one list of stores. -/
theorem agentStores_append (s : State) (l k : List Host.Cell) :
    (s.agentStores l).agentStores k = s.agentStores (l ++ k) := by
  cases h : s.ctl.busLock with
  | true =>
    rw [agentStores_locked (by simpa using h), agentStores_locked h, agentStores_locked h]
    simp
  | false =>
    rw [agentStores_free (by simpa using h), agentStores_free h, agentStores_free h]
    simp [storedBy_append]

/-! ## The end of a step -/

/-- Bus events without a reset are the stores they list. -/
theorem drain_agentStores (s : State) {l : List BusEvent} (h : ∀ x ∈ l, x ≠ .reset) (k : List Host.Cell) :
    (s.drain l).agentStores k = s.agentStores (cellsOf l ++ k) := by
  induction l generalizing s with
  | nil => rfl
  | cons x l ih =>
    have hl : ∀ y ∈ l, y ≠ .reset := fun y hy => h y (List.mem_cons_of_mem _ hy)
    cases x with
    | stores cells => rw [State.drain, ih _ hl, agentStores_append, cellsOf, List.append_assoc]
    | reset => exact absurd rfl (h _ List.mem_cons_self)

theorem settle_eq_agentStores {s : State} (h : ∀ x ∈ s.env.bus, x ≠ .reset) :
    s.settle = { s with env := { s.env with bus := [] } }.agentStores (cellsOf s.env.bus) := by
  rw [State.settle, drain_agentStores _ h, List.append_nil]

/-! ## An input -/

theorem deliver_cons {s : State} {e : Input} {rest : List Input} (h : s.env.inputs = e :: rest) :
    s.deliver = { s.agentStores e.writes with
      env := { (s.agentStores e.writes).env.receive e with inputs := rest, bus := e.bus } } := by
  simp [State.deliver, h]

theorem resetRequested_cons {s : State} {e : Input} {rest : List Input} (h : s.env.inputs = e :: rest) :
    s.resetRequested = e.reset := by
  simp [State.resetRequested, h]

/-- Other agents' stores leave the environment as it is, but for the stores that wait. -/
theorem agentStores_env (s : State) (l : List Host.Cell) :
    (s.agentStores l).env = { s.env with held := (s.agentStores l).env.held } := by
  cases h : s.ctl.busLock with
  | true => rw [agentStores_locked h]
  | false => rw [agentStores_free h]

/-- The environment after an input: what the input says of the request lines and of TEST_ready, with its bus
events ahead; the stores that wait are those that its own stores leave. -/
theorem deliver_env {s : State} {e : Input} {rest : List Input} (h : s.env.inputs = e :: rest) :
    s.deliver.env = { s.env.receive e with
      inputs := rest, bus := e.bus, held := (s.agentStores e.writes).env.held } := by
  rw [deliver_cons h, agentStores_env]
  rfl

theorem deliver_mem {s : State} {e : Input} {rest : List Input} (h : s.env.inputs = e :: rest) :
    s.deliver.mem = (s.agentStores e.writes).mem := by rw [deliver_cons h]

/-- Other agents' stores change memory and the stores that wait. -/
theorem agentStores_eq (s : State) (l : List Host.Cell) :
    s.agentStores l = { s with env := (s.agentStores l).env, mem := (s.agentStores l).mem } := by
  cases h : s.ctl.busLock with
  | true => rw [agentStores_locked h]
  | false => rw [agentStores_free h]

/-- An input changes the environment and memory only. -/
theorem deliver_eq (s : State) : s.deliver = { s with env := s.deliver.env, mem := s.deliver.mem } := by
  cases h : s.env.inputs with
  | nil => rw [deliver_quiet h]
  | cons e rest =>
    rw [deliver_cons h, agentStores_eq]

/-! ## The statement -/

/-- Settles O7: an input is its stores and then its lines; what is left at the end of a step is stores alone where
no reset is among it. -/
theorem environmentInputs : Obligations.EnvironmentInputs := by
  unfold Obligations.EnvironmentInputs
  intro s e rest
  refine ⟨fun h => ⟨deliver_quiet h, resetRequested_quiet h⟩, fun h => ?_, fun hb => ⟨fun hl => ?_, fun hl => ?_⟩,
    settle_still⟩
  · have henv := deliver_env h
    have hmem := deliver_mem h
    refine ⟨resetRequested_cons h, by rw [henv]; rfl, ?keep, ?request, ?withdraw, ?testKept, ?testChanged,
      by rw [henv], by rw [henv], by rw [henv]; rfl, ?free, ?locked, deliver_eq s⟩
    case keep => intro hi; simp [henv, Env.receive, hi, IntrInput.pending, IntrInput.type]
    case request => intro n hi; simp [henv, Env.receive, hi, IntrInput.pending, IntrInput.type]
    case withdraw => intro hi; simp [henv, Env.receive, hi, IntrInput.pending]
    case testKept => intro ht; simp [henv, Env.receive, ht]
    case testChanged => intro b ht; simp [henv, Env.receive, ht]
    case free => intro hl; simp [henv, hmem, agentStores_free hl]
    case locked => intro hl; simp [henv, hmem, agentStores_locked hl]
  · rw [settle_eq_agentStores hb, agentStores_free]
    exact hl
  · rw [settle_eq_agentStores hb, agentStores_locked]
    exact hl

end Sys2Proof.Machine
end


section
/-! SUPPORT. The parts of a step that runs an instruction: which bytes the fetch takes, what a reset that comes
first leaves, and what follows the meaning. -/

namespace Sys2Proof.Machine

/-! ## A reset that has come stays -/

theorem access_of_reset {s : State} (h : s.resetReached = true) : s.access = s := by
  unfold State.access
  split
  · rfl
  next hb => simp [State.resetReached, hb] at h
  · rfl

theorem accesses_of_reset {s : State} (h : s.resetReached = true) (n : Nat) : s.accesses n = s := by
  induction n with
  | zero => rfl
  | succ n ih => rw [State.accesses, access_of_reset h, ih]

theorem accesses_add (s : State) (m n : Nat) : s.accesses (m + n) = (s.accesses m).accesses n := by
  induction m generalizing s with
  | zero => rw [Nat.zero_add]; rfl
  | succ m ih => rw [Nat.succ_add, State.accesses, State.accesses, ih]

/-- A reset that has come before one access has come before every later one. -/
theorem resetReached_accesses_mono {s : State} {m n : Nat} (hmn : m ≤ n)
    (h : (s.accesses m).resetReached = true) : (s.accesses n).resetReached = true := by
  obtain ⟨k, rfl⟩ := Nat.exists_eq_add_of_le hmn
  rw [accesses_add, accesses_of_reset h, h]

/-! ## The bytes fetched -/

/-- The fetch reads byte k where the reset has not come before its access. -/
theorem fetchBytes_getElem? (s : State) (k : Nat) :
    s.fetchBytes[k]? =
      if k < maxLength ∧ (s.accesses k).resetReached = false then some (s.fetchByte k) else none := by
  rw [State.fetchBytes, List.getElem?_map]
  split
  next h =>
    obtain ⟨hk, hr⟩ := h
    have hsplit : List.range maxLength =
        List.range (k + 1) ++ (List.range (maxLength - (k + 1))).map (k + 1 + ·) := by
      rw [← List.range_add]; congr 1; omega
    have hbefore : ∀ j ∈ List.range (k + 1), (!(s.accesses j).resetReached) = true := by
      intro j hj
      by_contra hne
      have hreset : (s.accesses j).resetReached = true := by simpa using hne
      have hjk : j ≤ k := Nat.le_of_lt_succ (List.mem_range.1 hj)
      rw [resetReached_accesses_mono hjk hreset] at hr
      exact absurd hr (by decide)
    rw [hsplit, List.takeWhile_append_of_pos hbefore, List.getElem?_append_left (by simp)]
    simp
  next h =>
    rw [Option.map_eq_none_iff, Option.eq_none_iff_forall_ne_some]
    intro x hx
    obtain ⟨hlt, hget⟩ := List.getElem?_eq_some_iff.1 hx
    have hrange := List.prefix_iff_getElem?.1 (List.takeWhile_prefix _) k hlt
    rw [hget] at hrange
    obtain ⟨hk, rfl⟩ := List.getElem?_eq_some_iff.1 hrange
    simp only [List.getElem_range, List.length_range] at hk hx
    have hnot := List.mem_takeWhile_imp (List.mem_of_getElem? hx)
    exact h ⟨hk, by simpa using hnot⟩

/-- Fewer bytes than the longest instruction has are fetched only where the reset has come. -/
theorem resetReached_of_short_fetch {s : State} (h : s.fetchBytes.length < maxLength) :
    (s.accesses maxLength).resetReached = true := by
  have hnone : s.fetchBytes[s.fetchBytes.length]? = none := List.getElem?_eq_none (Nat.le_refl _)
  rw [fetchBytes_getElem?] at hnone
  refine resetReached_accesses_mono (Nat.le_of_lt h) ?_
  by_contra hr
  simp [h, hr] at hnone

/-- With nothing that prefetch may hold, a byte fetched is the byte memory then has. -/
theorem fetchByte_of_nothing_stale {s : State} (h : s.ctl.stale = []) (k : Nat) :
    s.fetchByte k = Memory.read (s.accesses (k + 1)).mem
      (phys s.cfg s.regs.cs (s.regs.ip + BitVec.ofNat 16 k)) := by
  rw [State.fetchByte, h]
  rfl

/-! ## Around the meaning -/

/-- The state in which the meaning runs, as the step builds it. -/
theorem fetched_eq (s : State) (i : Instr) (rest : List Byte) :
    s.fetched i rest = ((s.advance (s.fetchBytes.length - rest.length)).setBusLock
      (s.ctl.pfx.lock && !isPrefix i)).setInhibit false := rfl

@[simp] theorem advance_flags (s : State) (n : Nat) : (s.advance n).flags = s.flags := State.accesses_flags s n

/-- A reset at the end of a step leaves nothing of the hidden state before it. -/
theorem settle_ctl_of_reset {s : State} (h : s.resetReached = true) (c : Control) :
    { s with ctl := c }.settle = s.settle := by
  obtain ⟨rest, hbus⟩ : ∃ rest, s.env.bus = .reset :: rest := by
    have hhead : s.env.bus.head? = some .reset := of_decide_eq_true h
    exact ⟨_, (List.cons_head?_tail hhead).symm⟩
  simp only [State.settle, hbus, State.drain]
  rfl

theorem complete_eq_completed (t : State) (tf0 : Bool) : t.complete tf0 = t.completed tf0 := by
  unfold State.complete State.completed
  exact if_congr (by simp) rfl rfl

theorem finish_eq_afterMeaning (i : Instr) (tf0 shadow : Bool) (t : State) :
    t.finish i tf0 shadow = t.afterMeaning i tf0 shadow := by
  unfold State.finish State.afterMeaning
  rw [complete_eq_completed]
  rfl

theorem perform_of_reset {s : State} (h : s.resetReached = true) (i : Instr) : s.perform i = .next s := if_pos h

theorem perform_repeat_refused {s : State} {i : Instr} (h : s.resetReached = false)
    (hrep : s.ctl.pfx.rep.isSome = true) (hp : isPrefix i = false) (hs : isString i = false) :
    s.perform i = .refused .repBeforeNonString := by
  simp [State.perform, h, hrep, hp, hs]

section
variable {s : State} {i : Instr} (h : s.resetReached = false)
  (hi : s.ctl.pfx.rep = none ∨ isPrefix i = true ∨ isString i = true)

include hi in
/-- The instruction passes the test of R126 for REP and REPNE. -/
theorem not_repBeforeNonString : (s.ctl.pfx.rep.isSome && !isPrefix i && !isString i) = false := by
  rcases hi with hi | hi | hi <;> simp [hi]

include h hi

/-- An instruction that no reset precedes and that may follow its prefixes runs its meaning. -/
theorem perform_of_next {t : State}
    (hx : exec i ((s.setBusLock (s.ctl.pfx.lock && !isPrefix i)).setInhibit false) = .next t) :
    s.perform i = .next (t.afterMeaning i s.flags.TF s.ctl.inhibit) := by
  simp [State.perform, h, not_repBeforeNonString hi, hx, finish_eq_afterMeaning]

theorem perform_of_refused {r : Refusal}
    (hx : exec i ((s.setBusLock (s.ctl.pfx.lock && !isPrefix i)).setInhibit false) = .refused r) :
    s.perform i = .refused r := by
  simp [State.perform, h, not_repBeforeNonString hi, hx]

end

/-- A running processor to which no reset arrives and that recognises no request runs an instruction. -/
theorem step_eq_runInstr {s : State} (h : s.ready)
    (hq : s.deliver.ctl.pfx ≠ Prefixes.empty ∨ s.deliver.noRequest) : step s = settled s.deliver.runInstr := by
  obtain ⟨hreset, hrun, hresume⟩ := h
  obtain ⟨-, -, hctl, -⟩ := deliver_frame s
  rw [← hctl] at hrun hresume
  have hidle : s.deliver.underWay = false := by simp [State.underWay, hrun, hresume]
  have hnone : s.deliver.recognise = none :=
    hq.elim (fun hp => recognise_prefixed hp hidle) recognise_noRequest
  rw [(step_cases hreset).2 hnone, State.advanceStep, hrun]

theorem runInstr_ok {s : State} {i : Instr} {rest : List Byte} (hr : s.ctl.resume = none)
    (h : decode s.cfg s.fetchBytes = .ok (i, rest)) :
    s.runInstr = (s.advance (s.fetchBytes.length - rest.length)).perform i := by
  simp [State.runInstr, hr, h]

theorem runInstr_error {s : State} {e : DecodeError} (hr : s.ctl.resume = none)
    (h : decode s.cfg s.fetchBytes = .error e) (he : e ≠ .truncated) :
    s.runInstr = .refused (.encoding e) := by
  rw [State.runInstr, hr]
  cases e with
  | truncated => exact absurd rfl he
  | _ => simp only [h]

/-- Bytes that a reset cuts off leave the reset. -/
theorem runInstr_truncated {s : State} (hr : s.ctl.resume = none)
    (h : decode s.cfg s.fetchBytes = .error .truncated) (hlen : s.fetchBytes.length < maxLength) :
    s.runInstr = .next { s.accesses maxLength with draws := s.draws + s.ctl.stale.length } := by
  have hreset : ((s.accesses maxLength).drawn s.ctl.stale.length).resetReached = true :=
    resetReached_of_short_fetch hlen
  have hrun : s.runInstr =
      ((s.accesses maxLength).drawn s.ctl.stale.length).refuse (.encoding .truncated) := by
    simp [State.runInstr, hr, h]
  rw [hrun, refuse_reset hreset, State.drawn, State.accesses_draws]

/-! ## The statement -/

/-- Settles O5: the fetch ends where the reset comes, and the step is `perform` after `advance`, whose state with
the lock and the shadow set is the one the statement names. -/
theorem stepRuns : Obligations.StepRuns := by
  unfold Obligations.StepRuns
  intro s i rest e u v
  refine ⟨fun k hk => ?cut, fun k hk hr => ⟨?byte, fun hst => fetchByte_of_nothing_stale hst k⟩,
    fun hready hq => ?step⟩
  case cut =>
    rw [fetchBytes_getElem?, if_neg]
    rintro ⟨hlt, hr⟩
    rcases hk with hk | hk
    · rw [hk] at hr; exact absurd hr (by decide)
    · exact absurd hlt (Nat.not_lt_of_le hk)
  case byte => rw [fetchBytes_getElem?, if_pos ⟨hk, hr⟩]
  case step =>
    have hstep : step s = settled u.runInstr := step_eq_runInstr hready hq
    have hresume : u.ctl.resume = none := by
      obtain ⟨-, -, hctl, -⟩ := deliver_frame s
      exact hctl ▸ hready.2.2
    refine ⟨fun hd he => ?_, fun hd hlen => ?_, fun hd => ?_⟩
    · rw [hstep, runInstr_error hresume hd he]; rfl
    · rw [hstep, runInstr_truncated hresume hd hlen]; rfl
    · rw [runInstr_ok hresume hd] at hstep
      generalize hn : u.fetchBytes.length - rest.length = n at hstep
      have hv : v = ((u.advance n).setBusLock ((u.advance n).ctl.pfx.lock && !isPrefix i)).setInhibit false :=
        hn ▸ fetched_eq u i rest
      have hvr : v.resetReached = (u.advance n).resetReached := by rw [hv]; rfl
      rw [hvr]
      refine ⟨fun hr => ?_, fun hr => ⟨fun hrep hp hs => ?_, fun hi => ⟨fun r hx => ?_, fun t hx => ?_⟩⟩⟩
      · rw [hstep, perform_of_reset hr, hv]
        exact congrArg Host.Outcome.next (settle_ctl_of_reset hr _).symm
      · rw [hstep, perform_repeat_refused hr hrep hp hs]
        rfl
      · rw [hstep, perform_of_refused hr hi (hv ▸ hx)]
        rfl
      · rw [hstep, perform_of_next hr hi (hv ▸ hx), advance_flags]
        rfl

end Sys2Proof.Machine
end


section
/-! SUPPORT. The registers, the FLAGS image and the state after reset; the prefixes, and the instructions that
set the interrupt shadow. -/

namespace Sys2Proof.Machine

/-! ## The register file -/

@[simp] theorem Regs.getSeg_set16 (g : Regs) (n : Bits3) (v : Word) : (g.set16 n v).getSeg = g.getSeg := by
  cases n <;> rfl
@[simp] theorem Regs.getSeg_set8 (g : Regs) (n : Bits3) (v : Byte) : (g.set8 n v).getSeg = g.getSeg := by
  cases n <;> rfl
@[simp] theorem Regs.getSeg_set (g : Regs) (n : Bits3) (w : Width) (v : BitVec w.bits) :
    (g.set n w v).getSeg = g.getSeg := by
  cases w with
  | byte => exact Regs.getSeg_set8 g n v
  | word => exact Regs.getSeg_set16 g n v

@[simp] theorem Regs.ip_set16 (g : Regs) (n : Bits3) (v : Word) : (g.set16 n v).ip = g.ip := by cases n <;> rfl

/-- A byte register is no part of SP, BP, SI, DI or IP. -/
theorem Regs.set8_pointers (g : Regs) (n : Bits3) (v : Byte) :
    (g.set8 n v).sp = g.sp ∧ (g.set8 n v).bp = g.bp ∧ (g.set8 n v).si = g.si ∧ (g.set8 n v).di = g.di ∧
      (g.set8 n v).ip = g.ip := by
  cases n <;> exact ⟨rfl, rfl, rfl, rfl, rfl⟩

theorem toNat_eq_highByte_lowByte (v : Word) : v.toNat = 256 * (highByte v).toNat + (lowByte v).toNat := by
  have := v.isLt
  simp only [highByte, lowByte, BitVec.extractLsb'_toNat, Nat.shiftRight_eq_div_pow]
  omega

/-- Settles O20: reads after writes by register number, and the halves of a word as numbers. -/
theorem registerFile : Obligations.RegisterFile := by
  unfold Obligations.RegisterFile
  intro g n m v b
  obtain ⟨hsp, hbp, hsi, hdi, hip⟩ := g.set8_pointers n b
  refine ⟨rfl, g.get16_set16 n m v, g.get8_set8 n m b, ?halves, hsp, hbp, hsi, hdi, g.getSeg_set16 n v,
    g.getSeg_set8 n b, g.ip_set16 n v, hip⟩
  case halves =>
    simp only [List.forall_mem_cons, List.not_mem_nil, false_implies, implies_true, and_true]
    exact ⟨toNat_eq_highByte_lowByte g.ax, toNat_eq_highByte_lowByte g.cx, toNat_eq_highByte_lowByte g.dx,
      toNat_eq_highByte_lowByte g.bx⟩

/-! ## The FLAGS word -/

/-- Bit k of a flag in its place. -/
theorem getLsbD_flagBit (b : Bool) (j k : Nat) (hj : j < 16) :
    (flagBit b j).getLsbD k = (b && decide (k = j)) := by
  cases b with
  | false => simp [flagBit]
  | true =>
    rw [show flagBit true j = BitVec.twoPow 16 j from rfl, BitVec.getLsbD_twoPow]
    simp [hj, eq_comm]

/-- The bits of the FLAGS image: the nine flags, and FLAGS_FIXED at the seven places that hold none. -/
theorem getLsbD_image (f : Flags) (x : Word) (k : Nat) :
    (f.image x).getLsbD k = ((x.getLsbD k && (0xF02A : Word).getLsbD k) ||
      f.OF && decide (k = 11) || f.DF && decide (k = 10) || f.IF && decide (k = 9) || f.TF && decide (k = 8) ||
      f.SF && decide (k = 7) || f.ZF && decide (k = 6) || f.AF && decide (k = 4) || f.PF && decide (k = 2) ||
      f.CF && decide (k = 0)) := by
  simp only [Flags.image, BitVec.getLsbD_or, BitVec.getLsbD_and, getLsbD_flagBit, Nat.reduceLT]

theorem image_flag_places (f : Flags) (x : Word) :
    ∀ p ∈ [(0, f.CF), (2, f.PF), (4, f.AF), (6, f.ZF), (7, f.SF), (8, f.TF), (9, f.IF), (10, f.DF), (11, f.OF)],
      (f.image x).getLsbD p.1 = p.2 := by
  simp [getLsbD_image]

theorem image_fixed_places (f : Flags) (x : Word) :
    ∀ k ∈ [1, 3, 5, 12, 13, 14, 15], (f.image x).getLsbD k = x.getLsbD k := by
  simp [getLsbD_image]

/-- The flags of their image are the flags. -/
theorem ofWord_image (f : Flags) (x : Word) : Flags.ofWord (f.image x) = f := by
  simp only [Flags.ofWord, getLsbD_image]
  simp

/-- Settles O21: bit by bit. -/
theorem flagsImage : Obligations.FlagsImage := by
  unfold Obligations.FlagsImage
  intro f x v
  refine ⟨image_flag_places f x, image_fixed_places f x, ofWord_image f x, ?_⟩
  simp [getLsbD_image, Flags.ofWord]

/-! ## Reset -/

/-- Settles O11: after reset memory lists nothing, the 8087 stack has its places, and nothing is under way. -/
theorem invReset : Obligations.InvReset := by
  unfold Obligations.InvReset
  decide

/-- After reset every place of the 8087 stack is empty. -/
theorem reset_st (n : Nat) : State.reset.st n = none := by
  have hfpu : State.reset.fpu = List.replicate resetConfig.stDepth none := rfl
  rw [State.st, hfpu, List.getElem?_replicate]
  split <;> rfl

/-- Settles O12: the fields of the parameter RESET, which `State.reset` puts in place. -/
theorem resetState : Obligations.ResetState := by
  unfold Obligations.ResetState
  refine ⟨rfl, rfl, rfl, rfl, rfl, rfl, rfl, rfl, rfl, rfl, rfl, reset_st, by decide, by decide, ?configs⟩
  case configs =>
    have hdefault : ∀ c ∈ [State.reset.cfg, resetConfig, config8086, config80286], c.reset = defaultReset := by
      decide
    intro c hc
    rw [hdefault c hc]
    exact ⟨rfl, rfl, rfl, rfl, rfl, rfl, rfl, rfl, rfl, rfl, rfl, rfl⟩

/-! ## Prefixes -/

theorem repPrefix_noted {s : State} (h : s.ctl.pfx.rep = none) (p : Rep) :
    s.repPrefix p = .next (s.setPfx { s.ctl.pfx with rep := some p }) := by
  simp [State.repPrefix, h]

theorem repPrefix_refused {s : State} (h : s.ctl.pfx.rep ≠ none) (p : Rep) :
    s.repPrefix p = .refused .duplicatePrefix :=
  if_pos (Option.isSome_iff_ne_none.2 h)

theorem segPrefix_noted {s : State} (h : s.ctl.pfx.seg = none) (sr : SReg) :
    s.segPrefix sr = .next (s.setPfx { s.ctl.pfx with seg := some sr }) := by
  simp [State.segPrefix, h]

theorem segPrefix_refused {s : State} (h : s.ctl.pfx.seg ≠ none) (sr : SReg) :
    s.segPrefix sr = .refused .duplicatePrefix :=
  if_pos (Option.isSome_iff_ne_none.2 h)

theorem execLock_noted {s : State} (h : s.ctl.pfx.lock = false) :
    execLock s = .next (s.setPfx { s.ctl.pfx with lock := true }) := by
  simp [execLock, h]

theorem execLock_refused {s : State} (h : s.ctl.pfx.lock = true) : execLock s = .refused .duplicatePrefix :=
  if_pos h

/-- Settles O53: the six repeat and segment prefixes are two operations, LOCK is a third. -/
theorem prefixesNoted : Obligations.PrefixesNoted := by
  unfold Obligations.PrefixesNoted
  intro s
  simp only [List.forall_mem_cons, List.not_mem_nil, false_implies, implies_true, and_true]
  exact ⟨⟨⟨(repPrefix_noted · .rep), (repPrefix_refused · .rep)⟩,
      ⟨(repPrefix_noted · .repne), (repPrefix_refused · .repne)⟩⟩,
    ⟨⟨(segPrefix_noted · .es), (segPrefix_refused · .es)⟩, ⟨(segPrefix_noted · .cs), (segPrefix_refused · .cs)⟩,
      ⟨(segPrefix_noted · .ss), (segPrefix_refused · .ss)⟩, ⟨(segPrefix_noted · .ds), (segPrefix_refused · .ds)⟩⟩,
    execLock_noted, execLock_refused⟩

/-! ## The interrupt shadow -/

/-- A next state that differs in the registers, the flags and the count of free values only. -/
theorem effect_update (s : State) (g : Regs) (f : Flags) (d : Nat) :
    Effect (.next { s with regs := g, flags := f, draws := d }) s g f []
      { s with regs := g, flags := f, draws := d } :=
  ⟨rfl, rfl, fun _ _ => rfl, [], rfl, by simp⟩

theorem execMovSegRm_still {s : State} (h : s.still) {sr : SReg} (hsr : sr ≠ .cs) (rm : Rm) :
    execMovSegRm sr rm s = .next ((s.setSeg sr (s.rmRead .word rm)).setInhibit true) := by
  rw [execMovSegRm, if_neg hsr, rmAfter_still h]

theorem execMovSegRm_cs (s : State) (rm : Rm) : execMovSegRm .cs rm s = .refused .csDestination := if_pos rfl

/-- POP to a segment register: the word at the top of the stack, SP two higher, the shadow set. -/
theorem popSeg_effect {s : State} (h : s.still) (sr : SReg) :
    ∃ t, Effect (.next (s.popSeg sr)) (s.setInhibit true)
      ({ s.regs with sp := s.regs.sp + 2 }.setSeg sr (s.read16 s.regs.ss s.regs.sp)) s.flags [] t := by
  rw [State.popSeg, drop_still h]
  exact ⟨_, effect_update (s.setInhibit true) _ _ s.draws⟩

/-- Settles O27: each of the four is its registers and flags on the state with the shadow set. -/
theorem shadowSetters : Obligations.ShadowSetters := by
  unfold Obligations.ShadowSetters
  intro s rm sr h
  refine ⟨fun hsr => ?mov, execMovSegRm_cs s rm, ?pop, ?sti⟩
  case mov =>
    rw [show exec (.movSegRm sr rm) s = _ from execMovSegRm_still h hsr rm]
    exact ⟨_, effect_update (s.setInhibit true) _ _ s.draws⟩
  case pop =>
    simp only [List.forall_mem_cons, List.not_mem_nil, false_implies, implies_true, and_true]
    exact ⟨popSeg_effect h .es, popSeg_effect h .ss, popSeg_effect h .ds⟩
  case sti => exact ⟨_, effect_update (s.setInhibit true) _ _ s.draws⟩

end Sys2Proof.Machine
end


section
/-! SUPPORT. Which instructions can write DF, IF, TF and the segment registers: a relation that says that none of
them has changed, one lemma for each shared operation, and every instruction but the named ones as a chain of
those operations. -/

namespace Sys2Proof.Machine

/-! ## The relation -/

/-- DF, IF and TF, the flags that no result sets (R37 to R39). -/
def Flags.control (f : Flags) : Bool × Bool × Bool := (f.DF, f.IF, f.TF)

/-- `t` has DF, IF, TF and the segment registers of `s`. -/
structure SameControl (s t : State) : Prop where
  flags : t.flags.control = s.flags.control
  segs : t.regs.getSeg = s.regs.getSeg

/-- A next state of this outcome has DF, IF, TF and the segment registers of `s`. -/
def KeepsControl (s : State) (r : Result) : Prop := ∀ t, r = .next t → SameControl s t

theorem SameControl.refl (s : State) : SameControl s s := ⟨rfl, rfl⟩

theorem SameControl.trans {s t u : State} (h : SameControl s t) (g : SameControl t u) : SameControl s u :=
  ⟨g.flags.trans h.flags, g.segs.trans h.segs⟩

/-- An operation that leaves all flags and registers alone. -/
theorem SameControl.of_eq {s t : State} (hf : t.flags = s.flags) (hr : t.regs = s.regs) : SameControl s t :=
  ⟨congrArg _ hf, congrArg _ hr⟩

/-! ## Operations on the state -/

section
variable (s : State)

theorem sameControl_accesses (n : Nat) : SameControl s (s.accesses n) := .of_eq (by simp) (by simp)

theorem sameControl_afterRead (w : Width) : SameControl s (s.afterRead w) := .of_eq (by simp) (by simp)

theorem sameControl_rmAfter (w : Width) (rm : Rm) : SameControl s (s.rmAfter w rm) := .of_eq (by simp) (by simp)

theorem sameControl_setReg (w : Width) (n : Bits3) (v : BitVec w.bits) : SameControl s (s.setReg w n v) :=
  ⟨rfl, s.regs.getSeg_set n w v⟩

theorem sameControl_setReg16 (n : Bits3) (v : Word) : SameControl s (s.setReg16 n v) :=
  ⟨rfl, s.regs.getSeg_set16 n v⟩

theorem sameControl_writeMem (seg off : Word) (w : Width) (v : BitVec w.bits) :
    SameControl s (s.writeMem seg off w v) := .of_eq (by simp) (by simp)

theorem sameControl_write16 (seg off v : Word) : SameControl s (s.write16 seg off v) := .of_eq (by simp) (by simp)
theorem sameControl_write32 (seg off : Word) (v : BitVec 32) : SameControl s (s.write32 seg off v) :=
  .of_eq (by simp) (by simp)
theorem sameControl_write64 (seg off : Word) (v : BitVec 64) : SameControl s (s.write64 seg off v) :=
  .of_eq (by simp) (by simp)
theorem sameControl_write80 (seg off : Word) (v : BitVec 80) : SameControl s (s.write80 seg off v) :=
  .of_eq (by simp) (by simp)

theorem sameControl_writePlace (w : Width) (p : Place) (v : BitVec w.bits) : SameControl s (s.writePlace w p v) := by
  cases p with
  | reg n => exact sameControl_setReg s w n v
  | mem seg off => exact sameControl_writeMem s seg off w v

theorem sameControl_rmWrite (w : Width) (rm : Rm) (v : BitVec w.bits) : SameControl s (s.rmWrite w rm v) :=
  sameControl_writePlace s w _ v

theorem sameControl_push (v : Word) : SameControl s (s.push v) := ⟨by simp, by rw [State.push_regs]; rfl⟩

theorem sameControl_drop : SameControl s s.drop := ⟨by simp, by rw [State.drop_regs]; rfl⟩

theorem sameControl_portRead (port : Word) : SameControl s (s.portRead port) := by
  unfold State.portRead
  split
  · exact .refl s
  · exact (sameControl_accesses s 1).trans ⟨rfl, rfl⟩

theorem sameControl_portWrite (port : Word) (v : Byte) : SameControl s (s.portWrite port v) := by
  unfold State.portWrite
  split
  · exact .refl s
  · exact (sameControl_accesses s 1).trans ⟨rfl, rfl⟩

theorem sameControl_ioRead (port : Word) (w : Width) : SameControl s (s.ioRead port w) := by
  cases w with
  | byte => exact sameControl_portRead s port
  | word => exact (sameControl_portRead s port).trans (sameControl_portRead _ _)

theorem sameControl_ioWrite (port : Word) (w : Width) (v : BitVec w.bits) : SameControl s (s.ioWrite port w v) := by
  cases w with
  | byte => exact sameControl_portWrite s port v
  | word => exact (sameControl_portWrite s port _).trans (sameControl_portWrite _ _ _)

/-! ## Operand forms -/

theorem sameControl_formRm (d : Dir) (w : Width) (rm : Rm) (r : Bits3) {op : BinaryOp w}
    (hop : ∀ a b u, SameControl u (op a b u).2) : SameControl s (s.formRm d w rm r op) := by
  cases d with
  | toRm => exact ((sameControl_rmAfter s w rm).trans (hop _ _ _)).trans (sameControl_rmWrite _ w rm _)
  | toReg => exact ((sameControl_rmAfter s w rm).trans (hop _ _ _)).trans (sameControl_setReg _ w r _)

theorem sameControl_formAcc (w : Width) (imm : BitVec w.bits) {op : BinaryOp w}
    (hop : ∀ a b u, SameControl u (op a b u).2) : SameControl s (s.formAcc w imm op) :=
  (hop _ _ _).trans (sameControl_setReg _ w .b000 _)

theorem sameControl_formImm (w : Width) (rm : Rm) (imm : BitVec w.bits) {op : BinaryOp w}
    (hop : ∀ a b u, SameControl u (op a b u).2) : SameControl s (s.formImm w rm imm op) :=
  ((sameControl_rmAfter s w rm).trans (hop _ _ _)).trans (sameControl_rmWrite _ w rm _)

theorem sameControl_flagsRm (d : Dir) (w : Width) (rm : Rm) (r : Bits3) {op : BinaryOp w}
    (hop : ∀ a b u, SameControl u (op a b u).2) : SameControl s (s.flagsRm d w rm r op) := by
  cases d with
  | toRm => exact (sameControl_rmAfter s w rm).trans (hop _ _ _)
  | toReg => exact (sameControl_rmAfter s w rm).trans (hop _ _ _)

theorem sameControl_flagsImm (w : Width) (rm : Rm) (imm : BitVec w.bits) {op : BinaryOp w}
    (hop : ∀ a b u, SameControl u (op a b u).2) : SameControl s (s.flagsImm w rm imm op) :=
  (sameControl_rmAfter s w rm).trans (hop _ _ _)

theorem sameControl_formUnary (w : Width) (rm : Rm) {op : BitVec w.bits → State → BitVec w.bits × State}
    (hop : ∀ a u, SameControl u (op a u).2) : SameControl s (s.formUnary w rm op) :=
  ((sameControl_rmAfter s w rm).trans (hop _ _)).trans (sameControl_rmWrite _ w rm _)

theorem sameControl_opAdd {w : Width} (c : Bool) (a b : BitVec w.bits) : SameControl s (opAdd c a b s).2 := ⟨rfl, rfl⟩
theorem sameControl_opSub {w : Width} (c : Bool) (a b : BitVec w.bits) : SameControl s (opSub c a b s).2 := ⟨rfl, rfl⟩
theorem sameControl_logicFlags {n : Nat} (r : BitVec n) : SameControl s (s.logicFlags r) := ⟨rfl, rfl⟩

/-! ## Shared operations of the instructions -/

theorem sameControl_jumpIf (c : Bool) (disp : Byte) : SameControl s (s.jumpIf c disp) := by
  cases c <;> exact ⟨rfl, rfl⟩

theorem sameControl_loopIf (c : Bool) (disp : Byte) : SameControl s (s.loopIf c disp) :=
  SameControl.trans (t := s.setCx (s.regs.cx - 1)) ⟨rfl, rfl⟩ (sameControl_jumpIf _ _ disp)

theorem sameControl_imul3 (r : Bits3) (a b : Word) : SameControl s (s.imul3 r a b) :=
  (sameControl_setReg16 s r _).trans ⟨rfl, rfl⟩

theorem sameControl_scan (r : Bits3) (v : Word) (position : Nat) : SameControl s (s.scan r v position) := by
  unfold State.scan
  split
  · exact ⟨rfl, rfl⟩
  · exact ⟨rfl, (sameControl_setReg16 s r _).segs⟩

theorem sameControl_testBit (d : Word) (position : Nat) : SameControl s (s.testBit d position) := ⟨rfl, rfl⟩

theorem sameControl_changeBit (rm : Rm) (position : Nat) (change : Word → Word → Word) :
    SameControl s (s.changeBit rm position change) :=
  ((sameControl_rmAfter s .word rm).trans (sameControl_testBit _ _ _)).trans (sameControl_rmWrite _ .word rm _)

theorem control_shiftFlags (op : ShiftOp) (f : Flags) (count : Nat) {n : Nat} (old new : BitVec n) (cf : Bool)
    (draw : Nat) : (op.flags f count old new cf draw).control = f.control := by
  cases op <;> rfl

theorem sameControl_shift (op : ShiftOp) (w : Width) (rm : Rm) (count : Nat) :
    SameControl s (s.shift op w rm count) := by
  unfold State.shift
  split
  · exact sameControl_rmAfter s w rm
  · have hread := sameControl_rmAfter s w rm
    have hwritten := hread.trans (sameControl_rmWrite _ w rm
      (op.steps count (s.rmRead w rm) s.flags.CF).1)
    exact ⟨control_shiftFlags op s.flags count _ _ _ _, hwritten.segs⟩

theorem sameControl_doubleShift (rm : Rm) (c : Nat) (result : Word × Bool) :
    SameControl s (s.doubleShift rm c result) := by
  unfold State.doubleShift
  split
  · exact .refl s
  · split
    · exact ⟨rfl, (sameControl_rmWrite s .word rm _).segs⟩
    · exact ⟨rfl, (sameControl_rmWrite s .word rm _).segs⟩

/-! ## String instructions -/

theorem sameControl_stepSi (w : Width) : SameControl s (s.stepSi w) := ⟨rfl, rfl⟩
theorem sameControl_stepDi (w : Width) : SameControl s (s.stepDi w) := ⟨rfl, rfl⟩

theorem sameControl_setStringDest (w : Width) (v : BitVec w.bits) : SameControl s (s.setStringDest w v) :=
  sameControl_writeMem s _ _ w v

theorem sameControl_movsOnce (w : Width) : SameControl s (s.movsOnce w) :=
  (((sameControl_afterRead s w).trans (sameControl_setStringDest _ w _)).trans (sameControl_stepSi _ w)).trans
    (sameControl_stepDi _ w)

theorem sameControl_cmpsOnce (w : Width) : SameControl s (s.cmpsOnce w) :=
  ((sameControl_afterRead s w).trans (sameControl_afterRead _ w)).trans ⟨by simp; rfl, rfl⟩

theorem sameControl_scasOnce (w : Width) : SameControl s (s.scasOnce w) :=
  (sameControl_afterRead s w).trans ⟨by simp; rfl, rfl⟩

theorem sameControl_lodsOnce (w : Width) : SameControl s (s.lodsOnce w) :=
  ((sameControl_afterRead s w).trans (sameControl_setReg _ w .b000 _)).trans (sameControl_stepSi _ w)

theorem sameControl_stosOnce (w : Width) : SameControl s (s.stosOnce w) :=
  (sameControl_setStringDest s w _).trans (sameControl_stepDi _ w)

theorem sameControl_insOnce (w : Width) : SameControl s (s.insOnce w) :=
  ((sameControl_ioRead s _ w).trans (sameControl_setStringDest _ w _)).trans (sameControl_stepDi _ w)

theorem sameControl_outsOnce (w : Width) : SameControl s (s.outsOnce w) :=
  ((sameControl_afterRead s w).trans (sameControl_ioWrite _ _ w _)).trans (sameControl_stepSi _ w)

theorem sameControl_repeated (i : Instr) (compares : Bool) {once : State → State}
    (h : ∀ u, SameControl u (once u)) : SameControl s (s.repeated i compares once) := by
  have hcount : SameControl s ((once s).setCx (s.regs.cx - 1)) := (h s).trans ⟨rfl, rfl⟩
  unfold State.repeated
  split
  · exact h s
  · split
    · exact .refl s
    · dsimp only
      split
      · exact hcount
      · split
        · exact hcount
        · exact hcount.trans ⟨rfl, rfl⟩

end

/-! ## Outcomes -/

theorem keepsControl_next {s t : State} (h : SameControl s t) : KeepsControl s (.next t) := by
  rintro u ⟨⟩
  exact h

theorem keepsControl_refused (s : State) (r : Refusal) : KeepsControl s (.refused r) := by
  intro t h
  cases h

theorem keepsControl_refuse {s u : State} (h : SameControl s u) (r : Refusal) : KeepsControl s (u.refuse r) := by
  unfold State.refuse
  split
  · exact keepsControl_next h
  · exact keepsControl_refused s r

theorem keepsControl_withMem {s u : State} (rm : Rm) {k : Word → Word → Result}
    (h : ∀ seg off, KeepsControl s (k seg off)) : KeepsControl s (u.withMem rm k) := by
  unfold State.withMem
  split
  · exact h _ _
  · exact keepsControl_refused s _

theorem keepsControl_withEscMem (s : State) (rm : Rm) {k : State → Word → Word → Result}
    (h : ∀ u seg off, SameControl s u → KeepsControl s (k u seg off)) : KeepsControl s (s.withEscMem rm k) :=
  keepsControl_withMem rm fun seg off => h _ seg off (sameControl_rmAfter s .word rm)

theorem keepsControl_withSt {s u : State} (hu : SameControl s u) (n : Nat) {k : TReal → Result}
    (h : ∀ v, KeepsControl s (k v)) : KeepsControl s (u.withSt n k) := by
  unfold State.withSt
  split
  · exact h _
  · exact keepsControl_refuse hu _

theorem keepsControl_ifSt {s u t : State} (hu : SameControl s u) (n : Nat) (ht : SameControl s t) :
    KeepsControl s (u.ifSt n t) := by
  unfold State.ifSt
  split
  · exact keepsControl_next ht
  · exact keepsControl_refuse hu _

theorem keepsControl_fpuPush {s u : State} (hu : SameControl s u) (v : TReal) : KeepsControl s (u.fpuPush v) := by
  unfold State.fpuPush
  split
  · exact keepsControl_refuse hu _
  · exact keepsControl_next (hu.trans ⟨rfl, rfl⟩)

theorem keepsControl_repPrefix (s : State) (p : Rep) : KeepsControl s (s.repPrefix p) := by
  unfold State.repPrefix
  split
  · exact keepsControl_refused s _
  · exact keepsControl_next ⟨rfl, rfl⟩

theorem keepsControl_segPrefix (s : State) (sr : SReg) : KeepsControl s (s.segPrefix sr) := by
  unfold State.segPrefix
  split
  · exact keepsControl_refused s _
  · exact keepsControl_next ⟨rfl, rfl⟩

theorem keepsControl_execLock (s : State) : KeepsControl s (execLock s) := by
  unfold execLock
  split
  · exact keepsControl_refused s _
  · exact keepsControl_next ⟨rfl, rfl⟩

/-! ## 8087 instructions -/

section
variable (s : State)

theorem keepsControl_stArith (f : TReal → TReal → TReal) (dest src : Nat) :
    KeepsControl s (s.stArith f dest src) :=
  keepsControl_withSt (.refl s) _ fun _ => keepsControl_withSt (.refl s) _ fun _ => keepsControl_next ⟨rfl, rfl⟩

theorem keepsControl_stArithPop (f : TReal → TReal → TReal) : KeepsControl s (s.stArithPop f) :=
  keepsControl_withSt (.refl s) _ fun _ => keepsControl_withSt (.refl s) _ fun _ => keepsControl_next ⟨rfl, rfl⟩

theorem keepsControl_stArithMem (f : TReal → TReal → TReal) (rm : Rm) {operand : FpuRead}
    (h : ∀ u seg off, SameControl u (operand u seg off).2) : KeepsControl s (s.stArithMem f rm operand) :=
  keepsControl_withEscMem s rm fun u seg off hu =>
    have hread := hu.trans (h u seg off)
    keepsControl_withSt hread 0 fun _ => keepsControl_next (hread.trans ⟨rfl, rfl⟩)

theorem keepsControl_stLoad (rm : Rm) {operand : FpuRead}
    (h : ∀ u seg off, SameControl u (operand u seg off).2) : KeepsControl s (s.stLoad rm operand) :=
  keepsControl_withEscMem s rm fun u seg off hu => keepsControl_fpuPush (hu.trans (h u seg off)) _

theorem keepsControl_stStore (rm : Rm) {store : FpuStore}
    (h : ∀ u seg off x, SameControl u (store u seg off x)) : KeepsControl s (s.stStore rm store) :=
  keepsControl_withEscMem s rm fun u seg off hu =>
    keepsControl_withSt hu 0 fun x => keepsControl_next (hu.trans (h u seg off x))

theorem keepsControl_stStorePop (rm : Rm) {store : FpuStore}
    (h : ∀ u seg off x, SameControl u (store u seg off x)) : KeepsControl s (s.stStorePop rm store) :=
  keepsControl_withEscMem s rm fun u seg off hu =>
    keepsControl_withSt hu 0 fun x => keepsControl_next ((hu.trans (h u seg off x)).trans ⟨rfl, rfl⟩)

end

end Sys2Proof.Machine
end


section
/-! SUPPORT. Every instruction but the named writers leaves DF, IF, TF and the segment registers alone. -/

namespace Sys2Proof.Machine

/-- The instructions that R28, R37 to R39 and the rules of the transfers name. -/
def writesControl : Instr → Bool
  | .cld | .std | .cli | .sti | .popf | .iret | .int3 | .intN _ | .into | .div _ _ | .idiv _ _ | .callFar _ _
  | .callFarInd _ | .jmpFar _ _ | .jmpFarInd _ | .retFar | .retFarPop _ | .movSegRm _ _ | .popDs | .popEs | .popSs
  | .lds _ _ | .les _ _ => true
  | _ => false

theorem keepsControl_execMovRm (d : Dir) (w : Width) (rm : Rm) (r : Bits3) (s : State) :
    KeepsControl s (execMovRm d w rm r s) := by
  cases d with
  | toRm => exact keepsControl_next (sameControl_rmWrite s w rm _)
  | toReg => exact keepsControl_next ((sameControl_rmAfter s w rm).trans (sameControl_setReg _ w r _))

theorem keepsControl_execXchgRm (w : Width) (rm : Rm) (r : Bits3) (s : State) :
    KeepsControl s (execXchgRm w rm r s) :=
  have hlocked : SameControl s (s.setBusLock true) := ⟨rfl, rfl⟩
  have hread := hlocked.trans (sameControl_rmAfter _ w rm)
  keepsControl_next
    (((hread.trans (sameControl_rmWrite _ w rm _)).trans (sameControl_setReg _ w r _)).trans ⟨rfl, rfl⟩)

theorem keepsControl_execPushRm (rm : Rm) (s : State) : KeepsControl s (execPushRm rm s) := by
  have hmem : ∀ rm, SameControl s (s.pushMem rm) := fun rm =>
    (sameControl_rmAfter s .word rm).trans (sameControl_push _ _)
  cases rm with
  | reg r => exact keepsControl_next (sameControl_push s _)
  | direct _ | base _ | disp8 _ _ | disp16 _ _ => exact keepsControl_next (hmem _)

theorem keepsControl_execPusha (s : State) : KeepsControl s (execPusha s) :=
  keepsControl_next <| (sameControl_push s _).trans <| (sameControl_push _ _).trans <|
    (sameControl_push _ _).trans <| (sameControl_push _ _).trans <| (sameControl_push _ _).trans <|
    (sameControl_push _ _).trans <| (sameControl_push _ _).trans (sameControl_push _ _)

theorem keepsControl_execWait (s : State) : KeepsControl s (execWait s) := by
  refine keepsControl_next ?_
  split
  · exact .refl s
  · exact ⟨rfl, rfl⟩

theorem keepsControl_execMul (w : Width) (rm : Rm) (s : State) : KeepsControl s (execMul w rm s) := by
  cases w with
  | byte => exact keepsControl_next ((sameControl_rmAfter s .byte rm).trans ⟨rfl, rfl⟩)
  | word => exact keepsControl_next ((sameControl_rmAfter s .word rm).trans ⟨rfl, rfl⟩)

theorem keepsControl_execImul (w : Width) (rm : Rm) (s : State) : KeepsControl s (execImul w rm s) := by
  cases w with
  | byte => exact keepsControl_next ((sameControl_rmAfter s .byte rm).trans ⟨rfl, rfl⟩)
  | word => exact keepsControl_next ((sameControl_rmAfter s .word rm).trans ⟨rfl, rfl⟩)

/-! ## The 8087 stores -/

section
variable (rm : Rm) (s : State)

theorem keepsControl_execFistM16 : KeepsControl s (execFistM16 rm s) :=
  keepsControl_stStore s rm fun u _ _ _ => sameControl_write16 u _ _ _
theorem keepsControl_execFstM32 : KeepsControl s (execFstM32 rm s) :=
  keepsControl_stStore s rm fun u _ _ _ => sameControl_write32 u _ _ _
theorem keepsControl_execFistM32 : KeepsControl s (execFistM32 rm s) :=
  keepsControl_stStore s rm fun u _ _ _ => sameControl_write32 u _ _ _
theorem keepsControl_execFstM64 : KeepsControl s (execFstM64 rm s) :=
  keepsControl_stStore s rm fun u _ _ _ => sameControl_write64 u _ _ _
theorem keepsControl_execFistpM16 : KeepsControl s (execFistpM16 rm s) :=
  keepsControl_stStorePop s rm fun u _ _ _ => sameControl_write16 u _ _ _
theorem keepsControl_execFstpM32 : KeepsControl s (execFstpM32 rm s) :=
  keepsControl_stStorePop s rm fun u _ _ _ => sameControl_write32 u _ _ _
theorem keepsControl_execFistpM32 : KeepsControl s (execFistpM32 rm s) :=
  keepsControl_stStorePop s rm fun u _ _ _ => sameControl_write32 u _ _ _
theorem keepsControl_execFstpM64 : KeepsControl s (execFstpM64 rm s) :=
  keepsControl_stStorePop s rm fun u _ _ _ => sameControl_write64 u _ _ _
theorem keepsControl_execFistpM64 : KeepsControl s (execFistpM64 rm s) :=
  keepsControl_stStorePop s rm fun u _ _ _ => sameControl_write64 u _ _ _
theorem keepsControl_execFstpM80 : KeepsControl s (execFstpM80 rm s) :=
  keepsControl_stStorePop s rm fun u _ _ _ => sameControl_write80 u _ _ _
theorem keepsControl_execFbstp : KeepsControl s (execFbstp rm s) :=
  keepsControl_stStorePop s rm fun u _ _ _ => sameControl_write80 u _ _ _

end

/-! ## Every instruction -/

/-- An instruction that is none of the named writers leaves DF, IF, TF and the segment registers alone. -/
theorem exec_keepsControl {i : Instr} (hi : writesControl i = false) (s : State) : KeepsControl s (exec i s) := by
  cases i with
  -- Arithmetic and logic in the forms of R244.
  | addRm d w rm r | adcRm d w rm r =>
    exact keepsControl_next (sameControl_formRm s d w rm r fun a b u => sameControl_opAdd u _ a b)
  | subRm d w rm r | sbbRm d w rm r =>
    exact keepsControl_next (sameControl_formRm s d w rm r fun a b u => sameControl_opSub u _ a b)
  | orRm d w rm r | andRm d w rm r | xorRm d w rm r =>
    exact keepsControl_next (sameControl_formRm s d w rm r fun _ _ u => sameControl_logicFlags u _)
  | addAcc w imm | adcAcc w imm =>
    exact keepsControl_next (sameControl_formAcc s w imm fun a b u => sameControl_opAdd u _ a b)
  | subAcc w imm | sbbAcc w imm =>
    exact keepsControl_next (sameControl_formAcc s w imm fun a b u => sameControl_opSub u _ a b)
  | orAcc w imm | andAcc w imm | xorAcc w imm =>
    exact keepsControl_next (sameControl_formAcc s w imm fun _ _ u => sameControl_logicFlags u _)
  | addImm w rm imm | adcImm w rm imm =>
    exact keepsControl_next (sameControl_formImm s w rm imm fun a b u => sameControl_opAdd u _ a b)
  | subImm w rm imm | sbbImm w rm imm =>
    exact keepsControl_next (sameControl_formImm s w rm imm fun a b u => sameControl_opSub u _ a b)
  | orImm w rm imm | andImm w rm imm | xorImm w rm imm =>
    exact keepsControl_next (sameControl_formImm s w rm imm fun _ _ u => sameControl_logicFlags u _)
  | addImmS rm imm8 | adcImmS rm imm8 =>
    exact keepsControl_next (sameControl_formImm s .word rm _ fun a b u => sameControl_opAdd u _ a b)
  | subImmS rm imm8 | sbbImmS rm imm8 =>
    exact keepsControl_next (sameControl_formImm s .word rm _ fun a b u => sameControl_opSub u _ a b)
  | cmpRm d w rm r =>
    exact keepsControl_next (sameControl_flagsRm s d w rm r fun a b u => sameControl_opSub u _ a b)
  | cmpAcc w imm => exact keepsControl_next (sameControl_opSub s _ _ _)
  | cmpImm w rm imm =>
    exact keepsControl_next (sameControl_flagsImm s w rm imm fun a b u => sameControl_opSub u _ a b)
  | cmpImmS rm imm8 =>
    exact keepsControl_next (sameControl_flagsImm s .word rm _ fun a b u => sameControl_opSub u _ a b)
  | testRm w rm r => exact keepsControl_next ((sameControl_rmAfter s w rm).trans (sameControl_logicFlags _ _))
  | testAcc w imm => exact keepsControl_next (sameControl_logicFlags s _)
  | testImm w rm imm => exact keepsControl_next ((sameControl_rmAfter s w rm).trans (sameControl_logicFlags _ _))
  | incReg r | decReg r => exact keepsControl_next (sameControl_formUnary s .word _ fun _ _ => ⟨rfl, rfl⟩)
  | incRm w rm | decRm w rm | neg w rm =>
    exact keepsControl_next (sameControl_formUnary s w rm fun _ _ => ⟨rfl, rfl⟩)
  | not w rm => exact keepsControl_next ((sameControl_rmAfter s w rm).trans (sameControl_rmWrite _ w rm _))
  | mul w rm => exact keepsControl_execMul w rm s
  | imul w rm => exact keepsControl_execImul w rm s
  | imul3 r rm imm | imul3S r rm imm =>
    exact keepsControl_next ((sameControl_rmAfter s .word rm).trans (sameControl_imul3 _ r _ _))
  | daa | das | aaa | aas | aam | aad | cbw | cwd => exact keepsControl_next ⟨rfl, rfl⟩
  -- Shifts and rotates.
  | rol v w rm | ror v w rm | rcl v w rm | rcr v w rm | shl v w rm | shr v w rm | sar v w rm =>
    exact keepsControl_next (sameControl_shift s _ w rm _)
  | rolImm w rm cnt | rorImm w rm cnt | rclImm w rm cnt | rcrImm w rm cnt | shlImm w rm cnt | shrImm w rm cnt
  | sarImm w rm cnt => exact keepsControl_next (sameControl_shift s _ w rm _)
  | shldImm rm r cnt | shrdImm rm r cnt =>
    exact keepsControl_next ((sameControl_rmAfter s .word rm).trans (sameControl_doubleShift _ rm _ _))
  | shldCl rm r | shrdCl rm r =>
    exact keepsControl_next ((sameControl_rmAfter s .word rm).trans (sameControl_doubleShift _ rm _ _))
  -- Bits and conditions.
  | bsf r rm | bsr r rm =>
    exact keepsControl_next ((sameControl_rmAfter s .word rm).trans (sameControl_scan _ r _ _))
  | bt rm _ | btImm rm _ =>
    exact keepsControl_next ((sameControl_rmAfter s .word rm).trans (sameControl_testBit _ _ _))
  | bts rm _ | btr rm _ | btc rm _ | btsImm rm _ | btrImm rm _ | btcImm rm _ =>
    exact keepsControl_next (sameControl_changeBit s rm _ _)
  | seto rm | setno rm | setb rm | setae rm | sete rm | setne rm | setbe rm | seta rm | sets rm | setns rm | setp rm
  | setnp rm | setl rm | setge rm | setle rm | setg rm => exact keepsControl_next (sameControl_rmWrite s .byte rm _)
  -- Data transfer.
  | movRm d w rm r => exact keepsControl_execMovRm d w rm r s
  | movRmSeg rm sr => exact keepsControl_next (sameControl_rmWrite s .word rm _)
  | movRmImm w rm imm => exact keepsControl_next (sameControl_rmWrite s w rm imm)
  | movRegImm w r imm => exact keepsControl_next (sameControl_setReg s w r imm)
  | movAccMem w addr =>
    exact keepsControl_next ((sameControl_afterRead s w).trans (sameControl_setReg _ w .b000 _))
  | movMemAcc w addr => exact keepsControl_next (sameControl_writeMem s _ _ w _)
  | movsx r rm | movzx r rm =>
    exact keepsControl_next ((sameControl_rmAfter s .byte rm).trans (sameControl_setReg16 _ r _))
  | xlat => exact keepsControl_next ((sameControl_afterRead s .byte).trans (sameControl_setReg _ .byte .b000 _))
  | lea r rm => exact keepsControl_withMem rm fun _ _ => keepsControl_next (sameControl_setReg16 s r _)
  | xchgRm w rm r => exact keepsControl_execXchgRm w rm r s
  | xchgAcc r => exact keepsControl_next ⟨rfl, (sameControl_setReg16 (s.setAx _) r _).segs⟩
  | lahf => exact keepsControl_next (sameControl_setReg s .byte .b100 _)
  | sahf => exact keepsControl_next ⟨rfl, rfl⟩
  | pushEs | pushCs | pushSs | pushDs | pushReg _ | pushf | pushImm16 _ | pushImm8 _ =>
    exact keepsControl_next (sameControl_push s _)
  | pushRm rm => exact keepsControl_execPushRm rm s
  | pusha => exact keepsControl_execPusha s
  | popReg r => exact keepsControl_next ((sameControl_drop s).trans (sameControl_setReg16 _ r _))
  | popRm rm => exact keepsControl_next ((sameControl_drop s).trans (sameControl_writePlace _ .word _ _))
  | popa => exact keepsControl_next ((sameControl_accesses s 16).trans ⟨rfl, by simp; rfl⟩)
  | inFixed w _ | inDx w =>
    exact keepsControl_next ((sameControl_ioRead s _ w).trans (sameControl_setReg _ w .b000 _))
  | outFixed w _ | outDx w => exact keepsControl_next (sameControl_ioWrite s _ w _)
  -- String instructions.
  | movs w => exact keepsControl_next (sameControl_repeated s _ _ (sameControl_movsOnce · w))
  | cmps w => exact keepsControl_next (sameControl_repeated s _ _ (sameControl_cmpsOnce · w))
  | scas w => exact keepsControl_next (sameControl_repeated s _ _ (sameControl_scasOnce · w))
  | lods w => exact keepsControl_next (sameControl_repeated s _ _ (sameControl_lodsOnce · w))
  | stos w => exact keepsControl_next (sameControl_repeated s _ _ (sameControl_stosOnce · w))
  | ins w => exact keepsControl_next (sameControl_repeated s _ _ (sameControl_insOnce · w))
  | outs w => exact keepsControl_next (sameControl_repeated s _ _ (sameControl_outsOnce · w))
  -- Control transfer inside the segment.
  | jo disp | jno disp | jb disp | jae disp | je disp | jne disp | jbe disp | ja disp | js disp | jns disp | jp disp
  | jnp disp | jl disp | jge disp | jle disp | jg disp | jcxz disp =>
    exact keepsControl_next (sameControl_jumpIf s _ disp)
  | loop disp | loope disp | loopne disp => exact keepsControl_next (sameControl_loopIf s _ disp)
  | jmpNear _ | jmpShort _ => exact keepsControl_next ⟨rfl, rfl⟩
  | jmpInd rm => exact keepsControl_next ((sameControl_rmAfter s .word rm).trans ⟨rfl, rfl⟩)
  | callNear _ => exact keepsControl_next ((sameControl_push s _).trans ⟨rfl, rfl⟩)
  | callInd rm =>
    exact keepsControl_next
      (((sameControl_rmAfter s .word rm).trans (sameControl_push _ _)).trans ⟨rfl, rfl⟩)
  | ret | retPop _ => exact keepsControl_next ((sameControl_drop s).trans ⟨rfl, rfl⟩)
  -- Processor control and the prefixes.
  | clc | stc | cmc | nop | hlt => exact keepsControl_next ⟨rfl, rfl⟩
  | wait => exact keepsControl_execWait s
  | esc _ _ rm => exact keepsControl_next (sameControl_rmAfter s .word rm)
  | lock => exact keepsControl_execLock s
  | rep | repne => exact keepsControl_repPrefix s _
  | segEs | segCs | segSs | segDs => exact keepsControl_segPrefix s _
  -- The 8087.
  | faddStSti _ | faddStiSt _ | fsubStSti _ | fsubStiSt _ | fmulStSti _ | fmulStiSt _ | fdivStSti _ | fdivStiSt _ =>
    exact keepsControl_stArith s _ _ _
  | faddP | fsubP | fmulP | fdivP => exact keepsControl_stArithPop s _
  | faddM32 rm | faddM64 rm | fsubM32 rm | fsubM64 rm | fmulM32 rm | fmulM64 rm | fdivM32 rm | fdivM64 rm
  | fiaddM16 rm | fiaddM32 rm | fisubM16 rm | fisubM32 rm | fimulM16 rm | fimulM32 rm | fidivM16 rm | fidivM32 rm =>
    exact keepsControl_stArithMem s _ rm fun u _ _ => sameControl_accesses u _
  | fldM32 rm | fldM64 rm | fldM80 rm | fildM16 rm | fildM32 rm | fildM64 rm | fbld rm =>
    exact keepsControl_stLoad s rm fun u _ _ => sameControl_accesses u _
  | fldSti _ => exact keepsControl_withSt (.refl s) _ fun v => keepsControl_fpuPush (.refl s) v
  | fstSti _ | fstpSti _ =>
    exact keepsControl_withSt (.refl s) _ fun _ => keepsControl_ifSt (.refl s) _ ⟨rfl, rfl⟩
  | fistM16 rm => exact keepsControl_execFistM16 rm s
  | fstM32 rm => exact keepsControl_execFstM32 rm s
  | fistM32 rm => exact keepsControl_execFistM32 rm s
  | fstM64 rm => exact keepsControl_execFstM64 rm s
  | fistpM16 rm => exact keepsControl_execFistpM16 rm s
  | fstpM32 rm => exact keepsControl_execFstpM32 rm s
  | fistpM32 rm => exact keepsControl_execFistpM32 rm s
  | fstpM64 rm => exact keepsControl_execFstpM64 rm s
  | fistpM64 rm => exact keepsControl_execFistpM64 rm s
  | fstpM80 rm => exact keepsControl_execFstpM80 rm s
  | fbstp rm => exact keepsControl_execFbstp rm s
  -- The named writers.
  | _ => cases hi

end Sys2Proof.Machine
end


section
/-! SUPPORT. What the named writers of the control flags and the segment registers leave alone, and the statement
about all instructions. -/

namespace Sys2Proof.Machine

/-! ## What takes an interrupt -/

/-- `t` has DF, DS, ES and SS of `s`: what an interrupt leaves alone of the flags and registers in question (R505). -/
structure SameBesideTrap (s t : State) : Prop where
  df : t.flags.DF = s.flags.DF
  ds : t.regs.ds = s.regs.ds
  es : t.regs.es = s.regs.es
  ss : t.regs.ss = s.regs.ss

theorem SameBesideTrap.trans {s t u : State} (h : SameBesideTrap s t) (g : SameBesideTrap t u) :
    SameBesideTrap s u :=
  ⟨g.df.trans h.df, g.ds.trans h.ds, g.es.trans h.es, g.ss.trans h.ss⟩

theorem sameBesideTrap_interrupt (s : State) (n : Byte) (r : Word) : SameBesideTrap s (s.interrupt n r) := by
  constructor <;> simp [State.interrupt]

theorem sameBesideTrap_rmAfter (s : State) (w : Width) (rm : Rm) : SameBesideTrap s (s.rmAfter w rm) := by
  constructor <;> simp

theorem sameBesideTrap_divideInterrupt (s : State) : SameBesideTrap s s.divideInterrupt := by
  unfold State.divideInterrupt
  split
  · exact sameBesideTrap_interrupt s 0 _
  · exact sameBesideTrap_interrupt s 0 _

theorem sameBesideTrap_divideErrorByte (s : State) : SameBesideTrap s s.divideErrorByte := by
  obtain ⟨hdf, hds, hes, hss⟩ : SameBesideTrap _ s.divideErrorByte := sameBesideTrap_divideInterrupt _
  exact ⟨hdf, hds, hes, hss⟩

theorem sameBesideTrap_divideErrorWord (s : State) : SameBesideTrap s s.divideErrorWord := by
  obtain ⟨hdf, hds, hes, hss⟩ : SameBesideTrap _ s.divideErrorWord := sameBesideTrap_divideInterrupt _
  exact ⟨hdf, hds, hes, hss⟩

theorem sameBesideTrap_quotientByte (s : State) (q r : Byte) : SameBesideTrap s (s.quotientByte q r) :=
  ⟨rfl, rfl, rfl, rfl⟩

theorem sameBesideTrap_quotientWord (s : State) (q r : Word) : SameBesideTrap s (s.quotientWord q r) :=
  ⟨rfl, rfl, rfl, rfl⟩

/-- The instructions that take an interrupt, always or where they fail (R256, R257, R372 to R374). -/
def takesInterrupt : Instr → Bool
  | .int3 | .into | .intN _ | .div _ _ | .idiv _ _ => true
  | _ => false

theorem sameBesideTrap_execDiv {w : Width} {rm : Rm} {s t : State} (h : execDiv w rm s = .next t) :
    SameBesideTrap s t := by
  have hread := sameBesideTrap_rmAfter s w rm
  cases w with
  | byte =>
    simp only [execDiv] at h
    split at h
    · cases h; exact hread.trans (sameBesideTrap_divideErrorByte _)
    · cases h; exact hread.trans (sameBesideTrap_quotientByte _ _ _)
  | word =>
    simp only [execDiv] at h
    split at h
    · cases h; exact hread.trans (sameBesideTrap_divideErrorWord _)
    · cases h; exact hread.trans (sameBesideTrap_quotientWord _ _ _)

theorem sameBesideTrap_execIdiv {w : Width} {rm : Rm} {s t : State} (h : execIdiv w rm s = .next t) :
    SameBesideTrap s t := by
  have hread := sameBesideTrap_rmAfter s w rm
  cases w with
  | byte =>
    simp only [execIdiv] at h
    split at h
    · cases h; exact hread.trans (sameBesideTrap_divideErrorByte _)
    · cases h; exact hread.trans (sameBesideTrap_quotientByte _ _ _)
  | word =>
    simp only [execIdiv] at h
    split at h
    · cases h; exact hread.trans (sameBesideTrap_divideErrorWord _)
    · cases h; exact hread.trans (sameBesideTrap_quotientWord _ _ _)

theorem sameBesideTrap_execInto {s t : State} (h : execInto s = .next t) : SameBesideTrap s t := by
  cases h
  split
  · exact sameBesideTrap_interrupt s 4 _
  · exact ⟨rfl, rfl, rfl, rfl⟩

theorem sameBesideTrap_exec {i : Instr} (hi : takesInterrupt i = true) {s t : State} (h : exec i s = .next t) :
    SameBesideTrap s t := by
  cases i with
  | int3 => cases h; exact sameBesideTrap_interrupt s 3 _
  | intN n => cases h; exact sameBesideTrap_interrupt s n _
  | into => exact sameBesideTrap_execInto h
  | div w rm => exact sameBesideTrap_execDiv h
  | idiv w rm => exact sameBesideTrap_execIdiv h
  | _ => cases hi

/-! ## The other writers -/

theorem withMem_next {s t : State} {rm : Rm} {k : Word → Word → Result} (h : s.withMem rm k = .next t) :
    ∃ seg off, k seg off = .next t := by
  unfold State.withMem at h
  split at h
  · exact ⟨_, _, h⟩
  · cases h

/-- A far transfer loads CS and IP, and stack accesses change SP: the control flags, DS, ES and SS stay. -/
structure SameBesideCs (s t : State) : Prop where
  flags : t.flags = s.flags
  ds : t.regs.ds = s.regs.ds
  es : t.regs.es = s.regs.es
  ss : t.regs.ss = s.regs.ss

/-- The far transfers other than IRET and the interrupts (R354, R355, R358, R359, R362, R364). -/
def transfersFar : Instr → Bool
  | .callFar _ _ | .callFarInd _ | .jmpFar _ _ | .jmpFarInd _ | .retFar | .retFarPop _ => true
  | _ => false

theorem sameBesideCs_farCall (s : State) (seg off : Word) : SameBesideCs s (s.farCall seg off) := by
  constructor <;> simp [State.farCall]

theorem sameBesideCs_exec {i : Instr} (hi : transfersFar i = true) {s t : State} (h : exec i s = .next t) :
    SameBesideCs s t := by
  cases i with
  | callFar off sg => cases h; exact sameBesideCs_farCall s sg off
  | callFarInd rm =>
    obtain ⟨seg, off, hk⟩ := withMem_next h
    cases hk
    constructor <;> simp [State.farCall]
  | jmpFar off sg => cases h; exact ⟨rfl, rfl, rfl, rfl⟩
  | jmpFarInd rm =>
    obtain ⟨seg, off, hk⟩ := withMem_next h
    cases hk
    constructor <;> simp
  | retFar => cases h; constructor <;> simp
  | retFarPop p => cases h; constructor <;> simp
  | _ => cases hi

/-- `t` has the flags of `s` and every segment register but `sr`. -/
structure LoadsSegment (sr : SReg) (s t : State) : Prop where
  flags : t.flags = s.flags
  others : ∀ x, x ≠ sr → t.regs.getSeg x = s.regs.getSeg x

theorem getSeg_setSeg (g : Regs) (n m : SReg) (v : Word) :
    (g.setSeg n v).getSeg m = if m = n then v else g.getSeg m := by
  cases n <;> cases m <;> rfl

theorem getSeg_setSeg_ne (g : Regs) {n m : SReg} (v : Word) (h : m ≠ n) : (g.setSeg n v).getSeg m = g.getSeg m := by
  rw [getSeg_setSeg, if_neg h]

theorem loadsSegment_popSeg (s : State) (sr : SReg) : LoadsSegment sr s (s.popSeg sr) :=
  ⟨s.drop_flags, fun x hx => (getSeg_setSeg_ne _ _ hx).trans (congrFun (sameControl_drop s).segs x)⟩

theorem loadsSegment_execMovSegRm {sr : SReg} {rm : Rm} {s t : State} (h : execMovSegRm sr rm s = .next t) :
    LoadsSegment sr s t := by
  unfold execMovSegRm at h
  split at h
  · cases h
  · cases h
    exact ⟨s.rmAfter_flags .word rm, fun x hx => (getSeg_setSeg_ne _ _ hx).trans
      (congrFun (sameControl_rmAfter s .word rm).segs x)⟩

/-- The pointer loads write a general register and one segment register. -/
theorem loadsSegment_pointer {sr : SReg} {r : Bits3} {rm : Rm} {s t : State} {off seg : Word → Word → Word}
    (h : s.withMem rm (fun sg o => .next (((s.accesses 4).setReg16 r (off sg o)).setSeg sr (seg sg o))) = .next t) :
    LoadsSegment sr s t := by
  obtain ⟨sg, o, hk⟩ := withMem_next h
  cases hk
  have hregs := (sameControl_accesses s 4).trans (sameControl_setReg16 _ r (off sg o))
  exact ⟨s.accesses_flags 4, fun x hx => (getSeg_setSeg_ne _ _ hx).trans (congrFun hregs.segs x)⟩

/-- The segment register that MOV, POP or a pointer load names (R203, R207, R210). -/
def segmentLoaded : Instr → Option SReg
  | .movSegRm sr _ => some sr
  | .popDs | .lds _ _ => some .ds
  | .popEs | .les _ _ => some .es
  | .popSs => some .ss
  | _ => none

theorem loadsSegment_exec {i : Instr} {sr : SReg} (hi : segmentLoaded i = some sr) {s t : State}
    (h : exec i s = .next t) : LoadsSegment sr s t := by
  cases i with
  | movSegRm _ rm => cases hi; exact loadsSegment_execMovSegRm h
  | popDs | popEs | popSs => cases hi; cases h; exact loadsSegment_popSeg s _
  | lds r rm | les r rm => cases hi; exact loadsSegment_pointer h
  | _ => cases hi

/-! ## The statement -/

/-- The seven parts of the state that the statement speaks of, where none of them has changed. -/
theorem SameControl.parts {s t : State} (h : SameControl s t) :
    t.flags.DF = s.flags.DF ∧ t.flags.IF = s.flags.IF ∧ t.flags.TF = s.flags.TF ∧ t.regs.cs = s.regs.cs ∧
      t.regs.ds = s.regs.ds ∧ t.regs.es = s.regs.es ∧ t.regs.ss = s.regs.ss := by
  have hdf := congrArg (·.1) h.flags
  have hif := congrArg (·.2.1) h.flags
  have htf := congrArg (·.2.2) h.flags
  exact ⟨hdf, hif, htf, congrFun h.segs .cs, congrFun h.segs .ds, congrFun h.segs .es, congrFun h.segs .ss⟩

/-- The parts that stay where one segment register is loaded: the flags, and the other registers. -/
theorem LoadsSegment.parts {sr : SReg} {s t : State} (h : LoadsSegment sr s t) :
    t.flags = s.flags ∧ (sr ≠ .cs → t.regs.cs = s.regs.cs) ∧ (sr ≠ .ds → t.regs.ds = s.regs.ds) ∧
      (sr ≠ .es → t.regs.es = s.regs.es) ∧ (sr ≠ .ss → t.regs.ss = s.regs.ss) :=
  ⟨h.flags, fun hn => h.others .cs hn.symm, fun hn => h.others .ds hn.symm, fun hn => h.others .es hn.symm,
    fun hn => h.others .ss hn.symm⟩

/-- Settles O18: the named writers one group after the other; every other instruction by `exec_keepsControl`. -/
theorem controlFlagAndSegmentWriters : Obligations.ControlFlagAndSegmentWriters := by
  unfold Obligations.ControlFlagAndSegmentWriters
  intro i s t h traps
  cases i with
  | cld | std | cli | sti => cases h; simp
  | popf => cases h; simp
  | iret => cases h; simp [State.interruptReturn]
  | int3 | into | intN _ | div _ _ | idiv _ _ =>
    obtain ⟨hdf, hds, hes, hss⟩ := sameBesideTrap_exec rfl h
    simp [traps, hdf, hds, hes, hss]
  | callFar _ _ | callFarInd _ | jmpFar _ _ | jmpFarInd _ | retFar | retFarPop _ =>
    obtain ⟨hflags, hds, hes, hss⟩ := sameBesideCs_exec rfl h
    simp [hflags, hds, hes, hss]
  | movSegRm sr rm =>
    obtain ⟨hflags, hcs, hds, hes, hss⟩ := (loadsSegment_exec rfl h).parts
    cases sr with
    | cs => cases h
    | ds | es | ss => simp_all
  | popDs | popEs | popSs | lds _ _ | les _ _ =>
    obtain ⟨hflags, hcs, hds, hes, hss⟩ := (loadsSegment_exec rfl h).parts
    simp_all
  | _ =>
    obtain ⟨hdf, hif, htf, hcs, hds, hes, hss⟩ := (exec_keepsControl rfl s t h).parts
    exact ⟨.inl hdf, .inl hif, .inl htf, .inl hcs, .inl hds, .inl hes, .inl hss⟩

end Sys2Proof.Machine
end


section
/-! SUPPORT. The invariant's parts about memory, the 8087 stack and the parameters: a relation that says that they
are kept, one lemma for each shared operation. What becomes of the repetition under way is part of it. -/

namespace Sys2Proof.Machine

/-! ## The relations -/

/-- Memory is canonical and inside the address space, and the 8087 stack has ST_DEPTH places (R55, R71). -/
structure State.UnitsOk (s : State) : Prop where
  canonical : Memory.wf s.mem = true
  inside : ∀ c ∈ s.mem, c.1 < 2 ^ s.cfg.physBits
  places : s.fpu.length = s.cfg.stDepth

/-- `t` has the parameters of `s`, and sound units where `s` has them. -/
structure Preserves (s t : State) : Prop where
  cfg : t.cfg = s.cfg
  units : s.UnitsOk → t.UnitsOk

/-- `t` has the repetition under way of `s` too. -/
structure Keeps (s t : State) : Prop extends Preserves s t where
  resume : t.ctl.resume = s.ctl.resume

/-- What the two relations speak of. -/
def State.guarded (s : State) : Config × List Host.Cell × Nat × Option Repeat :=
  (s.cfg, s.mem, s.fpu.length, s.ctl.resume)

theorem Preserves.refl (s : State) : Preserves s s := ⟨rfl, id⟩

theorem Preserves.trans {s t u : State} (h : Preserves s t) (g : Preserves t u) : Preserves s u :=
  ⟨g.cfg.trans h.cfg, g.units ∘ h.units⟩

theorem Preserves.of_eq {s t : State} (hcfg : t.cfg = s.cfg) (hmem : t.mem = s.mem)
    (hfpu : t.fpu.length = s.fpu.length) : Preserves s t where
  cfg := hcfg
  units h := ⟨hmem ▸ h.canonical, by rw [hmem, hcfg]; exact h.inside, by rw [hfpu, hcfg]; exact h.places⟩

theorem Keeps.refl (s : State) : Keeps s s := ⟨.refl s, rfl⟩

theorem Keeps.trans {s t u : State} (h : Keeps s t) (g : Keeps t u) : Keeps s u :=
  ⟨h.toPreserves.trans g.toPreserves, g.resume.trans h.resume⟩

/-- An update of other parts of the state. -/
theorem Keeps.of_eq {s t : State} (h : t.guarded = s.guarded) : Keeps s t := by
  simp only [State.guarded, Prod.mk.injEq] at h
  obtain ⟨hcfg, hmem, hfpu, hresume⟩ := h
  exact ⟨.of_eq hcfg hmem hfpu, hresume⟩

/-- An update of other parts of the state, after what kept these. -/
theorem Keeps.andThen {s t u : State} (h : Keeps s t) (g : u.guarded = t.guarded) : Keeps s u := h.trans (.of_eq g)

/-- A store inside the address space. -/
theorem Keeps.of_write {s t : State} {a : Nat} {v : Byte} (ha : a < 2 ^ s.cfg.physBits)
    (h : t.guarded = { s with mem := Memory.write s.mem a v }.guarded) : Keeps s t := by
  refine Keeps.andThen (t := { s with mem := Memory.write s.mem a v }) ⟨⟨rfl, fun hs => ?_⟩, rfl⟩ h
  refine ⟨Memory.wf_write a v hs.canonical, fun c hc => ?_, hs.places⟩
  rcases Memory.mem_write hc with rfl | hc
  · exact ha
  · exact hs.inside c hc

/-! ## Accesses -/

theorem mod_physBits_lt (c : Config) (a : Nat) : a % 2 ^ c.physBits < 2 ^ c.physBits :=
  Nat.mod_lt a (Nat.two_pow_pos _)

theorem keeps_storeCells (s : State) (l : List Host.Cell) : Keeps s (s.storeCells l) := by
  induction l generalizing s with
  | nil => exact .refl s
  | cons c l ih =>
    have hcell : Keeps s (s.storeCell c) := .of_write (mod_physBits_lt s.cfg c.1) rfl
    exact hcell.trans (ih _)

theorem keeps_agentStores (s : State) (l : List Host.Cell) : Keeps s (s.agentStores l) := by
  unfold State.agentStores
  split
  · exact .of_eq rfl
  · have hfreed : Keeps s { s with env := { s.env with held := [] } } := .of_eq rfl
    exact hfreed.trans (keeps_storeCells _ _)

section
variable (s : State)

theorem keeps_access : Keeps s s.access := by
  unfold State.access
  split
  · exact .refl s
  next cells rest _ =>
    have hevent : Keeps s { s with env := { s.env with bus := rest } } := .of_eq rfl
    exact hevent.trans (keeps_agentStores _ cells)
  · exact .refl s

theorem keeps_accesses (n : Nat) : Keeps s (s.accesses n) := by
  induction n generalizing s with
  | zero => exact .refl s
  | succ n ih => exact (keeps_access s).trans (ih _)

theorem keeps_afterRead (w : Width) : Keeps s (s.afterRead w) := keeps_accesses s _

theorem keeps_rmAfter (w : Width) (rm : Rm) : Keeps s (s.rmAfter w rm) := by
  unfold State.rmAfter State.placeAfter
  split
  · exact .refl s
  · exact keeps_afterRead s w

theorem keeps_write8 (seg off : Word) (v : Byte) : Keeps s (s.write8 seg off v) := by
  unfold State.write8
  split
  · exact .refl s
  · have haddr : phys s.cfg seg off < 2 ^ s.access.cfg.physBits := by
      rw [s.access_cfg]; exact mod_physBits_lt s.cfg _
    exact (keeps_access s).trans (.of_write haddr rfl)

theorem keeps_write16 (seg off v : Word) : Keeps s (s.write16 seg off v) :=
  (keeps_write8 s seg off _).trans (keeps_write8 _ _ _ _)

theorem keeps_write32 (seg off : Word) (v : BitVec 32) : Keeps s (s.write32 seg off v) :=
  (keeps_write16 s seg off _).trans (keeps_write16 _ _ _ _)

theorem keeps_write64 (seg off : Word) (v : BitVec 64) : Keeps s (s.write64 seg off v) :=
  (keeps_write32 s seg off _).trans (keeps_write32 _ _ _ _)

theorem keeps_write80 (seg off : Word) (v : BitVec 80) : Keeps s (s.write80 seg off v) :=
  (keeps_write64 s seg off _).trans (keeps_write16 _ _ _ _)

theorem keeps_writeMem (seg off : Word) (w : Width) (v : BitVec w.bits) : Keeps s (s.writeMem seg off w v) := by
  cases w with
  | byte => exact keeps_write8 s seg off v
  | word => exact keeps_write16 s seg off v

theorem keeps_writePlace (w : Width) (p : Place) (v : BitVec w.bits) : Keeps s (s.writePlace w p v) := by
  cases p with
  | reg n => exact .of_eq rfl
  | mem seg off => exact keeps_writeMem s seg off w v

theorem keeps_rmWrite (w : Width) (rm : Rm) (v : BitVec w.bits) : Keeps s (s.rmWrite w rm v) :=
  keeps_writePlace s w _ v

theorem keeps_portRead (port : Word) : Keeps s (s.portRead port) := by
  unfold State.portRead
  split
  · exact .refl s
  · exact (keeps_access s).andThen rfl

theorem keeps_portWrite (port : Word) (v : Byte) : Keeps s (s.portWrite port v) := by
  unfold State.portWrite
  split
  · exact .refl s
  · exact (keeps_access s).andThen rfl

theorem keeps_ioRead (port : Word) (w : Width) : Keeps s (s.ioRead port w) := by
  cases w with
  | byte => exact keeps_portRead s port
  | word => exact (keeps_portRead s port).trans (keeps_portRead _ _)

theorem keeps_ioWrite (port : Word) (w : Width) (v : BitVec w.bits) : Keeps s (s.ioWrite port w v) := by
  cases w with
  | byte => exact keeps_portWrite s port v
  | word => exact (keeps_portWrite s port _).trans (keeps_portWrite _ _ _)

/-! ## The stack and the interrupts -/

theorem keeps_push (v : Word) : Keeps s (s.push v) := by
  have hsp : Keeps s (s.setSp (s.regs.sp - 2)) := .of_eq rfl
  exact hsp.trans (keeps_write16 _ _ _ v)

theorem keeps_drop : Keeps s s.drop := (keeps_accesses s 2).andThen rfl

theorem keeps_interrupt (n : Byte) (r : Word) : Keeps s (s.interrupt n r) := by
  let u := (s.push s.flagsImage).setFlags { (s.push s.flagsImage).flags with IF := false, TF := false }
  let v := ((u.push u.regs.cs).accesses 2).push r
  have hu : Keeps s u := (keeps_push s _).andThen rfl
  have hv : Keeps s v := ((hu.trans (keeps_push u _)).trans (keeps_accesses _ 2)).trans (keeps_push _ r)
  exact (hv.trans (keeps_accesses v 2)).andThen rfl

theorem keeps_divideInterrupt : Keeps s s.divideInterrupt := by
  unfold State.divideInterrupt
  split
  · exact keeps_interrupt s 0 _
  · exact keeps_interrupt s 0 _

theorem keeps_divideErrorByte : Keeps s s.divideErrorByte := by
  refine Keeps.trans ?_ (keeps_divideInterrupt _)
  exact .of_eq rfl

theorem keeps_divideErrorWord : Keeps s s.divideErrorWord := by
  refine Keeps.trans ?_ (keeps_divideInterrupt _)
  exact .of_eq rfl

/-! ## Operand forms and shared operations of the instructions -/

theorem keeps_formRm (d : Dir) (w : Width) (rm : Rm) (r : Bits3) {op : BinaryOp w}
    (hop : ∀ a b u, (op a b u).2.guarded = u.guarded) : Keeps s (s.formRm d w rm r op) := by
  cases d with
  | toRm => exact ((keeps_rmAfter s w rm).andThen (hop _ _ _)).trans (keeps_rmWrite _ w rm _)
  | toReg => exact (keeps_rmAfter s w rm).andThen (hop _ _ _)

theorem keeps_formImm (w : Width) (rm : Rm) (imm : BitVec w.bits) {op : BinaryOp w}
    (hop : ∀ a b u, (op a b u).2.guarded = u.guarded) : Keeps s (s.formImm w rm imm op) :=
  ((keeps_rmAfter s w rm).andThen (hop _ _ _)).trans (keeps_rmWrite _ w rm _)

theorem keeps_flagsRm (d : Dir) (w : Width) (rm : Rm) (r : Bits3) {op : BinaryOp w}
    (hop : ∀ a b u, (op a b u).2.guarded = u.guarded) : Keeps s (s.flagsRm d w rm r op) := by
  cases d with
  | toRm => exact (keeps_rmAfter s w rm).andThen (hop _ _ _)
  | toReg => exact (keeps_rmAfter s w rm).andThen (hop _ _ _)

theorem keeps_formUnary (w : Width) (rm : Rm) {op : BitVec w.bits → State → BitVec w.bits × State}
    (hop : ∀ a u, (op a u).2.guarded = u.guarded) : Keeps s (s.formUnary w rm op) :=
  ((keeps_rmAfter s w rm).andThen (hop _ _)).trans (keeps_rmWrite _ w rm _)

theorem keeps_jumpIf (c : Bool) (disp : Byte) : Keeps s (s.jumpIf c disp) := by
  cases c <;> exact .of_eq rfl

theorem keeps_loopIf (c : Bool) (disp : Byte) : Keeps s (s.loopIf c disp) := by
  refine Keeps.trans ?_ (keeps_jumpIf _ _ disp)
  exact .of_eq rfl

theorem keeps_scan (r : Bits3) (v : Word) (position : Nat) : Keeps s (s.scan r v position) := by
  unfold State.scan
  split
  · exact .of_eq rfl
  · exact .of_eq rfl

theorem keeps_changeBit (rm : Rm) (position : Nat) (change : Word → Word → Word) :
    Keeps s (s.changeBit rm position change) := by
  refine Keeps.trans ?_ (keeps_rmWrite _ .word rm _)
  exact (keeps_rmAfter s .word rm).andThen rfl

theorem keeps_shift (op : ShiftOp) (w : Width) (rm : Rm) (count : Nat) : Keeps s (s.shift op w rm count) := by
  unfold State.shift
  split
  · exact keeps_rmAfter s w rm
  · exact ((keeps_rmAfter s w rm).trans (keeps_rmWrite _ w rm _)).andThen rfl

theorem keeps_doubleShift (rm : Rm) (c : Nat) (result : Word × Bool) : Keeps s (s.doubleShift rm c result) := by
  unfold State.doubleShift
  split
  · exact .refl s
  · split
    · exact (keeps_rmWrite s .word rm _).andThen rfl
    · exact (keeps_rmWrite s .word rm _).andThen rfl

end

/-! ## Outcomes -/

/-- A next state of this outcome keeps what `Keeps` says of `s`. -/
def KeptBy (s : State) (r : Result) : Prop := ∀ t, r = .next t → Keeps s t

theorem keptBy_next {s t : State} (h : Keeps s t) : KeptBy s (.next t) := by
  rintro u ⟨⟩
  exact h

theorem keptBy_refused (s : State) (r : Refusal) : KeptBy s (.refused r) := by
  intro t h
  cases h

theorem keptBy_refuse {s u : State} (h : Keeps s u) (r : Refusal) : KeptBy s (u.refuse r) := by
  unfold State.refuse
  split
  · exact keptBy_next h
  · exact keptBy_refused s r

theorem keptBy_withMem {s u : State} (rm : Rm) {k : Word → Word → Result} (h : ∀ seg off, KeptBy s (k seg off)) :
    KeptBy s (u.withMem rm k) := by
  unfold State.withMem
  split
  · exact h _ _
  · exact keptBy_refused s _

theorem keptBy_withEscMem (s : State) (rm : Rm) {k : State → Word → Word → Result}
    (h : ∀ u seg off, Keeps s u → KeptBy s (k u seg off)) : KeptBy s (s.withEscMem rm k) :=
  keptBy_withMem rm fun seg off => h _ seg off (keeps_rmAfter s .word rm)

theorem keptBy_prefix {s : State} {c : Bool} {r : Refusal} (p : Prefixes) :
    KeptBy s (if c then .refused r else .next (s.setPfx p)) := by
  cases c with
  | true => exact keptBy_refused s r
  | false => exact keptBy_next (.of_eq rfl)

/-! ## 8087 instructions -/

/-- A register that is not empty is one of the stack's places. -/
theorem fpu_ne_nil_of_st {s : State} {n : Nat} {v : TReal} (h : s.st n = some v) : s.fpu ≠ [] := by
  intro hnil
  simp [State.st, hnil] at h

theorem keptBy_withSt {s u : State} (hu : Keeps s u) (n : Nat) {k : TReal → Result}
    (h : ∀ v, u.fpu ≠ [] → KeptBy s (k v)) : KeptBy s (u.withSt n k) := by
  unfold State.withSt
  split
  next v hv => exact h v (fpu_ne_nil_of_st hv)
  · exact keptBy_refuse hu _

theorem keptBy_ifSt {s u t : State} (hu : Keeps s u) (n : Nat) (ht : Keeps s t) : KeptBy s (u.ifSt n t) := by
  unfold State.ifSt
  split
  · exact keptBy_next ht
  · exact keptBy_refuse hu _

theorem keeps_setSt (s : State) (n : Nat) (v : TReal) : Keeps s (s.setSt n v) := .of_eq (by simp [State.guarded])

/-- A pop of a stack that has a place leaves it as many. -/
theorem keeps_fpuPop {s : State} (h : s.fpu ≠ []) : Keeps s s.fpuPop := by
  have hpos := List.length_pos_iff.2 h
  refine .of_eq ?_
  simp only [State.guarded, State.fpuPop_cfg, State.fpuPop_mem, State.fpuPop_fpu, State.fpuPop_ctl,
    List.length_append, List.length_tail, List.length_singleton, Nat.sub_add_cancel hpos]

theorem keptBy_fpuPush {s u : State} (hu : Keeps s u) (v : TReal) : KeptBy s (u.fpuPush v) := by
  unfold State.fpuPush
  split
  · exact keptBy_refuse hu _
  next hroom =>
    have hne : u.fpu ≠ [] := by
      intro hnil
      simp [State.fpuFull, hnil] at hroom
    have hpos := List.length_pos_iff.2 hne
    refine keptBy_next (hu.andThen ?_)
    simp only [State.guarded, List.length_cons, List.length_dropLast, Nat.sub_add_cancel hpos]

section
variable (s : State)

theorem keptBy_stArith (f : TReal → TReal → TReal) (dest src : Nat) : KeptBy s (s.stArith f dest src) :=
  keptBy_withSt (.refl s) _ fun _ _ => keptBy_withSt (.refl s) _ fun _ _ => keptBy_next (keeps_setSt s _ _)

theorem keptBy_stArithPop (f : TReal → TReal → TReal) : KeptBy s (s.stArithPop f) :=
  keptBy_withSt (.refl s) _ fun _ _ => keptBy_withSt (.refl s) _ fun _ hne =>
    keptBy_next ((keeps_setSt s _ _).trans (keeps_fpuPop (by simpa using hne)))

theorem keptBy_stArithMem (f : TReal → TReal → TReal) (rm : Rm) {operand : FpuRead}
    (h : ∀ u seg off, Keeps u (operand u seg off).2) : KeptBy s (s.stArithMem f rm operand) :=
  keptBy_withEscMem s rm fun u seg off hu =>
    have hread := hu.trans (h u seg off)
    keptBy_withSt hread 0 fun _ _ => keptBy_next (hread.trans (keeps_setSt _ _ _))

theorem keptBy_stLoad (rm : Rm) {operand : FpuRead} (h : ∀ u seg off, Keeps u (operand u seg off).2) :
    KeptBy s (s.stLoad rm operand) :=
  keptBy_withEscMem s rm fun u seg off hu => keptBy_fpuPush (hu.trans (h u seg off)) _

theorem keptBy_stStore (rm : Rm) {store : FpuStore} (h : ∀ u seg off x, Keeps u (store u seg off x)) :
    KeptBy s (s.stStore rm store) :=
  keptBy_withEscMem s rm fun u seg off hu =>
    keptBy_withSt hu 0 fun x _ => keptBy_next (hu.trans (h u seg off x))

theorem keptBy_stStorePop (rm : Rm) {store : FpuStore}
    (h : ∀ u seg off x, Keeps u (store u seg off x) ∧ (store u seg off x).fpu = u.fpu) :
    KeptBy s (s.stStorePop rm store) :=
  keptBy_withEscMem s rm fun u seg off hu =>
    keptBy_withSt hu 0 fun x hne =>
      have hstored := h u seg off x
      keptBy_next ((hu.trans hstored.1).trans (keeps_fpuPop (hstored.2 ▸ hne)))

end

end Sys2Proof.Machine
end


section
/-! SUPPORT. Every instruction keeps what the invariant says of memory, the 8087 stack and the parameters; a
repetition under way is left by a string instruction alone. -/

namespace Sys2Proof.Machine

/-! ## Instructions of several forms -/

theorem keptBy_execMovRm (d : Dir) (w : Width) (rm : Rm) (r : Bits3) (s : State) :
    KeptBy s (execMovRm d w rm r s) := by
  cases d with
  | toRm => exact keptBy_next (keeps_rmWrite s w rm _)
  | toReg => exact keptBy_next ((keeps_rmAfter s w rm).andThen rfl)

theorem keptBy_execMovSegRm (sr : SReg) (rm : Rm) (s : State) : KeptBy s (execMovSegRm sr rm s) := by
  unfold execMovSegRm
  split
  · exact keptBy_refused s _
  · exact keptBy_next ((keeps_rmAfter s .word rm).andThen rfl)

theorem keptBy_execXchgRm (w : Width) (rm : Rm) (r : Bits3) (s : State) : KeptBy s (execXchgRm w rm r s) :=
  have hlocked : Keeps s (s.setBusLock true) := .of_eq rfl
  have hread := hlocked.trans (keeps_rmAfter _ w rm)
  keptBy_next ((hread.trans (keeps_rmWrite _ w rm _)).andThen rfl)

theorem keptBy_execPushRm (rm : Rm) (s : State) : KeptBy s (execPushRm rm s) := by
  have hmem : ∀ rm, Keeps s (s.pushMem rm) := fun rm => (keeps_rmAfter s .word rm).trans (keeps_push _ _)
  cases rm with
  | reg r => exact keptBy_next (keeps_push s _)
  | direct _ | base _ | disp8 _ _ | disp16 _ _ => exact keptBy_next (hmem _)

theorem keptBy_execPusha (s : State) : KeptBy s (execPusha s) :=
  keptBy_next <| (keeps_push s _).trans <| (keeps_push _ _).trans <| (keeps_push _ _).trans <|
    (keeps_push _ _).trans <| (keeps_push _ _).trans <| (keeps_push _ _).trans <|
    (keeps_push _ _).trans (keeps_push _ _)

theorem keptBy_execWait (s : State) : KeptBy s (execWait s) := by
  refine keptBy_next ?_
  split
  · exact .refl s
  · exact .of_eq rfl

theorem keptBy_execInto (s : State) : KeptBy s (execInto s) := by
  refine keptBy_next ?_
  split
  · exact keeps_interrupt s 4 _
  · exact .refl s

theorem keptBy_execMul (w : Width) (rm : Rm) (s : State) : KeptBy s (execMul w rm s) := by
  cases w with
  | byte => exact keptBy_next ((keeps_rmAfter s .byte rm).andThen rfl)
  | word => exact keptBy_next ((keeps_rmAfter s .word rm).andThen rfl)

theorem keptBy_execImul (w : Width) (rm : Rm) (s : State) : KeptBy s (execImul w rm s) := by
  cases w with
  | byte => exact keptBy_next ((keeps_rmAfter s .byte rm).andThen rfl)
  | word => exact keptBy_next ((keeps_rmAfter s .word rm).andThen rfl)

/-- A division: the divide error where it fails, else the quotient and the remainder. -/
theorem keptBy_division {s e q : State} {c : Prop} [Decidable c] (he : Keeps s e) (hq : Keeps s q) :
    KeptBy s (if c then .next e else .next q) := by
  split
  · exact keptBy_next he
  · exact keptBy_next hq

theorem keptBy_execDiv (w : Width) (rm : Rm) (s : State) : KeptBy s (execDiv w rm s) := by
  have hread := keeps_rmAfter s w rm
  cases w with
  | byte => exact keptBy_division (hread.trans (keeps_divideErrorByte _)) (hread.andThen rfl)
  | word => exact keptBy_division (hread.trans (keeps_divideErrorWord _)) (hread.andThen rfl)

theorem keptBy_execIdiv (w : Width) (rm : Rm) (s : State) : KeptBy s (execIdiv w rm s) := by
  have hread := keeps_rmAfter s w rm
  cases w with
  | byte => exact keptBy_division (hread.trans (keeps_divideErrorByte _)) (hread.andThen rfl)
  | word => exact keptBy_division (hread.trans (keeps_divideErrorWord _)) (hread.andThen rfl)

/-! ## The 8087 stores -/

section
variable (rm : Rm) (s : State)

theorem keptBy_execFistM16 : KeptBy s (execFistM16 rm s) := keptBy_stStore s rm fun u _ _ _ => keeps_write16 u _ _ _
theorem keptBy_execFstM32 : KeptBy s (execFstM32 rm s) := keptBy_stStore s rm fun u _ _ _ => keeps_write32 u _ _ _
theorem keptBy_execFistM32 : KeptBy s (execFistM32 rm s) := keptBy_stStore s rm fun u _ _ _ => keeps_write32 u _ _ _
theorem keptBy_execFstM64 : KeptBy s (execFstM64 rm s) := keptBy_stStore s rm fun u _ _ _ => keeps_write64 u _ _ _
theorem keptBy_execFistpM16 : KeptBy s (execFistpM16 rm s) :=
  keptBy_stStorePop s rm fun u _ _ _ => ⟨keeps_write16 u _ _ _, u.write16_fpu _ _ _⟩
theorem keptBy_execFstpM32 : KeptBy s (execFstpM32 rm s) :=
  keptBy_stStorePop s rm fun u _ _ _ => ⟨keeps_write32 u _ _ _, u.write32_fpu _ _ _⟩
theorem keptBy_execFistpM32 : KeptBy s (execFistpM32 rm s) :=
  keptBy_stStorePop s rm fun u _ _ _ => ⟨keeps_write32 u _ _ _, u.write32_fpu _ _ _⟩
theorem keptBy_execFstpM64 : KeptBy s (execFstpM64 rm s) :=
  keptBy_stStorePop s rm fun u _ _ _ => ⟨keeps_write64 u _ _ _, u.write64_fpu _ _ _⟩
theorem keptBy_execFistpM64 : KeptBy s (execFistpM64 rm s) :=
  keptBy_stStorePop s rm fun u _ _ _ => ⟨keeps_write64 u _ _ _, u.write64_fpu _ _ _⟩
theorem keptBy_execFstpM80 : KeptBy s (execFstpM80 rm s) :=
  keptBy_stStorePop s rm fun u _ _ _ => ⟨keeps_write80 u _ _ _, u.write80_fpu _ _ _⟩
theorem keptBy_execFbstp : KeptBy s (execFbstp rm s) :=
  keptBy_stStorePop s rm fun u _ _ _ => ⟨keeps_write80 u _ _ _, u.write80_fpu _ _ _⟩

end

/-! ## Every instruction but the string instructions -/

theorem exec_keptBy {i : Instr} (hi : isString i = false) (s : State) : KeptBy s (exec i s) := by
  cases i with
  -- Arithmetic and logic in the forms of R244.
  | addRm d w rm r | adcRm d w rm r | subRm d w rm r | sbbRm d w rm r | orRm d w rm r | andRm d w rm r
  | xorRm d w rm r => exact keptBy_next (keeps_formRm s d w rm r fun _ _ _ => rfl)
  | addAcc _ _ | adcAcc _ _ | subAcc _ _ | sbbAcc _ _ | orAcc _ _ | andAcc _ _ | xorAcc _ _ | cmpAcc _ _
  | testAcc _ _ => exact keptBy_next (.of_eq rfl)
  | addImm w rm imm | adcImm w rm imm | subImm w rm imm | sbbImm w rm imm | orImm w rm imm | andImm w rm imm
  | xorImm w rm imm => exact keptBy_next (keeps_formImm s w rm imm fun _ _ _ => rfl)
  | addImmS rm _ | adcImmS rm _ | subImmS rm _ | sbbImmS rm _ =>
    exact keptBy_next (keeps_formImm s .word rm _ fun _ _ _ => rfl)
  | cmpRm d w rm r => exact keptBy_next (keeps_flagsRm s d w rm r fun _ _ _ => rfl)
  | cmpImm w rm _ | testRm w rm _ | testImm w rm _ => exact keptBy_next ((keeps_rmAfter s w rm).andThen rfl)
  | cmpImmS rm _ => exact keptBy_next ((keeps_rmAfter s .word rm).andThen rfl)
  | incReg r | decReg r => exact keptBy_next (.of_eq rfl)
  | incRm w rm | decRm w rm | neg w rm => exact keptBy_next (keeps_formUnary s w rm fun _ _ => rfl)
  | not w rm => exact keptBy_next ((keeps_rmAfter s w rm).trans (keeps_rmWrite _ w rm _))
  | mul w rm => exact keptBy_execMul w rm s
  | imul w rm => exact keptBy_execImul w rm s
  | imul3 _ rm _ | imul3S _ rm _ => exact keptBy_next ((keeps_rmAfter s .word rm).andThen rfl)
  | div w rm => exact keptBy_execDiv w rm s
  | idiv w rm => exact keptBy_execIdiv w rm s
  | daa | das | aaa | aas | aam | aad | cbw | cwd => exact keptBy_next (.of_eq rfl)
  -- Shifts and rotates.
  | rol _ w rm | ror _ w rm | rcl _ w rm | rcr _ w rm | shl _ w rm | shr _ w rm | sar _ w rm =>
    exact keptBy_next (keeps_shift s _ w rm _)
  | rolImm w rm _ | rorImm w rm _ | rclImm w rm _ | rcrImm w rm _ | shlImm w rm _ | shrImm w rm _ | sarImm w rm _ =>
    exact keptBy_next (keeps_shift s _ w rm _)
  | shldImm rm _ _ | shrdImm rm _ _ | shldCl rm _ | shrdCl rm _ =>
    exact keptBy_next ((keeps_rmAfter s .word rm).trans (keeps_doubleShift _ rm _ _))
  -- Bits and conditions.
  | bsf r rm | bsr r rm => exact keptBy_next ((keeps_rmAfter s .word rm).trans (keeps_scan _ r _ _))
  | bt rm _ | btImm rm _ => exact keptBy_next ((keeps_rmAfter s .word rm).andThen rfl)
  | bts rm _ | btr rm _ | btc rm _ | btsImm rm _ | btrImm rm _ | btcImm rm _ =>
    exact keptBy_next (keeps_changeBit s rm _ _)
  | seto rm | setno rm | setb rm | setae rm | sete rm | setne rm | setbe rm | seta rm | sets rm | setns rm | setp rm
  | setnp rm | setl rm | setge rm | setle rm | setg rm => exact keptBy_next (keeps_rmWrite s .byte rm _)
  -- Data transfer.
  | movRm d w rm r => exact keptBy_execMovRm d w rm r s
  | movSegRm sr rm => exact keptBy_execMovSegRm sr rm s
  | movRmSeg rm _ => exact keptBy_next (keeps_rmWrite s .word rm _)
  | movRmImm w rm imm => exact keptBy_next (keeps_rmWrite s w rm imm)
  | movRegImm _ _ _ => exact keptBy_next (.of_eq rfl)
  | movAccMem w _ => exact keptBy_next ((keeps_afterRead s w).andThen rfl)
  | movMemAcc w _ => exact keptBy_next (keeps_writeMem s _ _ w _)
  | movsx _ rm | movzx _ rm => exact keptBy_next ((keeps_rmAfter s .byte rm).andThen rfl)
  | xlat => exact keptBy_next ((keeps_afterRead s .byte).andThen rfl)
  | lea _ rm => exact keptBy_withMem rm fun _ _ => keptBy_next (.of_eq rfl)
  | lds _ rm | les _ rm => exact keptBy_withMem rm fun _ _ => keptBy_next ((keeps_accesses s 4).andThen rfl)
  | xchgRm w rm r => exact keptBy_execXchgRm w rm r s
  | xchgAcc _ | lahf | sahf => exact keptBy_next (.of_eq rfl)
  | pushEs | pushCs | pushSs | pushDs | pushReg _ | pushf | pushImm16 _ | pushImm8 _ =>
    exact keptBy_next (keeps_push s _)
  | pushRm rm => exact keptBy_execPushRm rm s
  | pusha => exact keptBy_execPusha s
  | popReg _ | popEs | popSs | popDs | popf => exact keptBy_next ((keeps_drop s).andThen rfl)
  | popRm rm => exact keptBy_next ((keeps_drop s).trans (keeps_writePlace _ .word _ _))
  | popa => exact keptBy_next ((keeps_accesses s 16).andThen rfl)
  | inFixed w _ | inDx w => exact keptBy_next ((keeps_ioRead s _ w).andThen rfl)
  | outFixed w _ | outDx w => exact keptBy_next (keeps_ioWrite s _ w _)
  -- Control transfer.
  | jo disp | jno disp | jb disp | jae disp | je disp | jne disp | jbe disp | ja disp | js disp | jns disp | jp disp
  | jnp disp | jl disp | jge disp | jle disp | jg disp | jcxz disp => exact keptBy_next (keeps_jumpIf s _ disp)
  | loop disp | loope disp | loopne disp => exact keptBy_next (keeps_loopIf s _ disp)
  | jmpNear _ | jmpShort _ | jmpFar _ _ => exact keptBy_next (.of_eq rfl)
  | jmpInd rm => exact keptBy_next ((keeps_rmAfter s .word rm).andThen rfl)
  | jmpFarInd rm => exact keptBy_withMem rm fun _ _ => keptBy_next ((keeps_accesses s 4).andThen rfl)
  | callNear _ => exact keptBy_next ((keeps_push s _).andThen rfl)
  | callInd rm => exact keptBy_next (((keeps_rmAfter s .word rm).trans (keeps_push _ _)).andThen rfl)
  | callFar _ _ => exact keptBy_next (((keeps_push s _).trans (keeps_push _ _)).andThen rfl)
  | callFarInd rm =>
    exact keptBy_withMem rm fun _ _ =>
      keptBy_next ((((keeps_accesses s 4).trans (keeps_push _ _)).trans (keeps_push _ _)).andThen rfl)
  | ret | retPop _ => exact keptBy_next ((keeps_drop s).andThen rfl)
  | retFar | retFarPop _ => exact keptBy_next (((keeps_drop s).trans (keeps_drop _)).andThen rfl)
  | int3 | intN _ => exact keptBy_next (keeps_interrupt s _ _)
  | into => exact keptBy_execInto s
  | iret => exact keptBy_next ((((keeps_drop s).trans (keeps_drop _)).trans (keeps_drop _)).andThen rfl)
  -- Processor control and the prefixes.
  | clc | stc | cmc | cld | std | cli | sti | nop | hlt => exact keptBy_next (.of_eq rfl)
  | wait => exact keptBy_execWait s
  | esc _ _ rm => exact keptBy_next (keeps_rmAfter s .word rm)
  | lock | rep | repne | segEs | segCs | segSs | segDs => exact keptBy_prefix _
  -- The 8087.
  | faddStSti _ | faddStiSt _ | fsubStSti _ | fsubStiSt _ | fmulStSti _ | fmulStiSt _ | fdivStSti _ | fdivStiSt _ =>
    exact keptBy_stArith s _ _ _
  | faddP | fsubP | fmulP | fdivP => exact keptBy_stArithPop s _
  | faddM32 rm | faddM64 rm | fsubM32 rm | fsubM64 rm | fmulM32 rm | fmulM64 rm | fdivM32 rm | fdivM64 rm
  | fiaddM16 rm | fiaddM32 rm | fisubM16 rm | fisubM32 rm | fimulM16 rm | fimulM32 rm | fidivM16 rm | fidivM32 rm =>
    exact keptBy_stArithMem s _ rm fun u _ _ => keeps_accesses u _
  | fldM32 rm | fldM64 rm | fldM80 rm | fildM16 rm | fildM32 rm | fildM64 rm | fbld rm =>
    exact keptBy_stLoad s rm fun u _ _ => keeps_accesses u _
  | fldSti _ => exact keptBy_withSt (.refl s) _ fun v _ => keptBy_fpuPush (.refl s) v
  | fstSti _ => exact keptBy_withSt (.refl s) _ fun _ _ => keptBy_ifSt (.refl s) _ (keeps_setSt s _ _)
  | fstpSti _ =>
    exact keptBy_withSt (.refl s) _ fun _ hne =>
      keptBy_ifSt (.refl s) _ ((keeps_setSt s _ _).trans (keeps_fpuPop (by simpa using hne)))
  | fistM16 rm => exact keptBy_execFistM16 rm s
  | fstM32 rm => exact keptBy_execFstM32 rm s
  | fistM32 rm => exact keptBy_execFistM32 rm s
  | fstM64 rm => exact keptBy_execFstM64 rm s
  | fistpM16 rm => exact keptBy_execFistpM16 rm s
  | fstpM32 rm => exact keptBy_execFstpM32 rm s
  | fistpM32 rm => exact keptBy_execFistpM32 rm s
  | fstpM64 rm => exact keptBy_execFstpM64 rm s
  | fistpM64 rm => exact keptBy_execFistpM64 rm s
  | fstpM80 rm => exact keptBy_execFstpM80 rm s
  | fbstp rm => exact keptBy_execFbstp rm s
  | movs _ | cmps _ | scas _ | lods _ | stos _ | ins _ | outs _ => cases hi

end Sys2Proof.Machine
end


section
/-! SUPPORT. A string instruction leaves a repetition under way only under REP or REPNE; what a step does around
the meaning keeps the invariant, and the end of the step leaves nothing over on the bus. -/

namespace Sys2Proof.Machine

/-! ## Stores and ports: the hidden state but for prefetch -/

/-- The hidden state but for what prefetch may hold. -/
def Control.unfetched (c : Control) : Control := { c with stale := [] }

section
variable (s : State)

@[simp] theorem write8_unfetched (seg off : Word) (v : Byte) :
    (s.write8 seg off v).ctl.unfetched = s.ctl.unfetched := by
  unfold State.write8
  split
  · rfl
  · simp [Control.unfetched]

@[simp] theorem write16_unfetched (seg off v : Word) : (s.write16 seg off v).ctl.unfetched = s.ctl.unfetched := by
  simp [State.write16]

@[simp] theorem setStringDest_unfetched (w : Width) (v : BitVec w.bits) :
    (s.setStringDest w v).ctl.unfetched = s.ctl.unfetched := by
  cases w with
  | byte => exact write8_unfetched s _ _ v
  | word => exact write16_unfetched s _ _ v

@[simp] theorem push_unfetched (v : Word) : (s.push v).ctl.unfetched = s.ctl.unfetched := write16_unfetched _ _ _ v

@[simp] theorem portRead_ctl (port : Word) : (s.portRead port).ctl = s.ctl := by
  unfold State.portRead
  split
  · rfl
  · simp

@[simp] theorem portWrite_ctl (port : Word) (v : Byte) : (s.portWrite port v).ctl = s.ctl := by
  unfold State.portWrite
  split
  · rfl
  · simp

@[simp] theorem ioRead_ctl (port : Word) (w : Width) : (s.ioRead port w).ctl = s.ctl := by
  cases w <;> simp [State.ioRead]

@[simp] theorem ioWrite_ctl (port : Word) (w : Width) (v : BitVec w.bits) : (s.ioWrite port w v).ctl = s.ctl := by
  cases w <;> simp [State.ioWrite]

/-- The hidden state after an interrupt (R505, R552). -/
theorem interrupt_ctl (n : Byte) (r : Word) :
    (s.interrupt n r).ctl = { s.ctl with run := .running, inhibit := false, stale := [] } := by
  let u := (s.push s.flagsImage).setFlags { (s.push s.flagsImage).flags with IF := false, TF := false }
  let v := ((u.push u.regs.cs).accesses 2).push r
  have hv : v.ctl.unfetched = s.ctl.unfetched := by simp [u, v]
  have hctl : (s.interrupt n r).ctl = { v.ctl with run := .running, inhibit := false, stale := [] } := by
    simp [State.interrupt, u, v]
  exact hctl.trans (congrArg (fun c : Control => { c with run := .running, inhibit := false }) hv)

/-! ## String instructions -/

theorem keeps_setStringDest (w : Width) (v : BitVec w.bits) : Keeps s (s.setStringDest w v) :=
  keeps_writeMem s _ _ w v

/-- What one string operation keeps, the hidden state among it. -/
structure Operates (s t : State) : Prop extends Keeps s t where
  hidden : t.ctl.unfetched = s.ctl.unfetched

theorem operates_movsOnce (w : Width) : Operates s (s.movsOnce w) where
  toKeeps := ((keeps_afterRead s w).trans (keeps_setStringDest _ w _)).andThen rfl
  hidden := by simp [State.movsOnce]

theorem operates_cmpsOnce (w : Width) : Operates s (s.cmpsOnce w) where
  toKeeps := ((keeps_afterRead s w).trans (keeps_afterRead _ w)).andThen rfl
  hidden := by simp [State.cmpsOnce]

theorem operates_scasOnce (w : Width) : Operates s (s.scasOnce w) where
  toKeeps := (keeps_afterRead s w).andThen rfl
  hidden := by simp [State.scasOnce]

theorem operates_lodsOnce (w : Width) : Operates s (s.lodsOnce w) where
  toKeeps := (keeps_afterRead s w).andThen rfl
  hidden := by simp [State.lodsOnce]

theorem operates_stosOnce (w : Width) : Operates s (s.stosOnce w) where
  toKeeps := (keeps_setStringDest s w _).andThen rfl
  hidden := by simp [State.stosOnce]

theorem operates_insOnce (w : Width) : Operates s (s.insOnce w) where
  toKeeps := ((keeps_ioRead s _ w).trans (keeps_setStringDest _ w _)).andThen rfl
  hidden := by simp [State.insOnce]

theorem operates_outsOnce (w : Width) : Operates s (s.outsOnce w) where
  toKeeps := ((keeps_afterRead s w).trans (keeps_ioWrite _ _ w _)).andThen rfl
  hidden := by simp [State.outsOnce]

end

/-- `t` is `s` with a repetition of `i` under way, under the REP or REPNE of `s` (R339). -/
structure Suspends (i : Instr) (s t : State) : Prop extends Preserves s t where
  resume : ∃ ipNext, t.ctl.resume = some ⟨i, ipNext⟩
  rep : t.ctl.pfx.rep.isSome = true
  run : t.ctl.run = s.ctl.run

/-- A string instruction ends, or leaves its repetition under way. -/
theorem repeated_cases {s : State} {once : State → State} (h : ∀ u, Operates u (once u)) (i : Instr) (c : Bool) :
    Keeps s (s.repeated i c once) ∨ Suspends i s (s.repeated i c once) := by
  have hcount : Keeps s ((once s).setCx (s.regs.cx - 1)) := (h s).toKeeps.andThen rfl
  have hrun : (once s).ctl.run = s.ctl.run := congrArg (·.run) (h s).hidden
  have hpfx : (once s).ctl.pfx = s.ctl.pfx := congrArg (·.pfx) (h s).hidden
  unfold State.repeated
  split
  · exact .inl (h s).toKeeps
  next p hp =>
    split
    · exact .inl (.refl s)
    · dsimp only
      split
      · exact .inl hcount
      · split
        · exact .inl hcount
        · exact .inr ⟨hcount.toPreserves.trans (.of_eq rfl rfl rfl), ⟨_, rfl⟩,
            (congrArg (·.rep.isSome) hpfx).trans (by rw [hp]; rfl), hrun⟩

theorem exec_string_cases {i : Instr} (hi : isString i = true) {s t : State} (h : exec i s = .next t) :
    Keeps s t ∨ Suspends i s t := by
  cases i with
  | movs w => cases h; exact repeated_cases (operates_movsOnce · w) _ _
  | cmps w => cases h; exact repeated_cases (operates_cmpsOnce · w) _ _
  | scas w => cases h; exact repeated_cases (operates_scasOnce · w) _ _
  | lods w => cases h; exact repeated_cases (operates_lodsOnce · w) _ _
  | stos w => cases h; exact repeated_cases (operates_stosOnce · w) _ _
  | ins w => cases h; exact repeated_cases (operates_insOnce · w) _ _
  | outs w => cases h; exact repeated_cases (operates_outsOnce · w) _ _
  | _ => cases hi

/-- What the meaning of an instruction can do to what the invariant speaks of. -/
theorem exec_cases {i : Instr} {s t : State} (h : exec i s = .next t) :
    Keeps s t ∨ (isString i = true ∧ Suspends i s t) := by
  cases hi : isString i with
  | false => exact .inl (exec_keptBy hi s t h)
  | true => exact (exec_string_cases hi h).imp_right fun hs => ⟨rfl, hs⟩

/-- LOCK, REP, REPNE and the segment overrides change only what is noted of the prefixes (R126). -/
theorem exec_prefix {i : Instr} (hi : isPrefix i = true) {s t : State} (h : exec i s = .next t) :
    ∃ p, t = s.setPfx p := by
  have noted : ∀ (c : Bool) (r : Refusal) (p : Prefixes),
      (if c then .refused r else .next (s.setPfx p) : Result) = .next t → ∃ p, t = s.setPfx p := by
    intro c r p hc
    cases c with
    | true => cases hc
    | false => cases hc; exact ⟨p, rfl⟩
  cases i with
  | lock | rep | repne | segEs | segCs | segSs | segDs => exact noted _ _ _ h
  | _ => cases hi

/-! ## The repetition under way and the bus lock -/

theorem repeatOk_of_idle {c : Control} (hr : c.resume = none) (hl : c.busLock = false) : c.repeatOk = true := by
  simp [Control.repeatOk, hr, hl]

theorem repeatOk_of_repeat {c : Control} {r : Repeat} (hr : c.resume = some r) (hs : isString r.instr = true)
    (hp : c.pfx.rep.isSome = true) (hrun : c.run = .running) : c.repeatOk = true := by
  simp [Control.repeatOk, hr, hs, hp, hrun]

/-- A processor that does not run has no repetition under way. -/
theorem resume_of_repeatOk {c : Control} (h : c.repeatOk = true) (hrun : c.run ≠ .running) : c.resume = none := by
  cases hr : c.resume with
  | none => rfl
  | some r => simp [Control.repeatOk, hr, hrun] at h

/-! ## The end of a step -/

theorem preserves_resetEvent (s : State) : Preserves s s.resetEvent :=
  ⟨rfl, fun h => ⟨h.canonical, h.inside, List.length_replicate⟩⟩

theorem preserves_drain (s : State) (l : List BusEvent) : Preserves s (s.drain l) := by
  induction l generalizing s with
  | nil => exact .refl s
  | cons x l ih =>
    cases x with
    | stores cells => exact (keeps_agentStores s cells).toPreserves.trans (ih _)
    | reset => exact (preserves_resetEvent s).trans (ih _)

theorem preserves_settle (s : State) : Preserves s s.settle :=
  have hbus : Preserves s { s with env := { s.env with bus := [] } } := .of_eq rfl rfl rfl
  (hbus.trans (preserves_drain _ _)).trans (keeps_agentStores _ []).toPreserves

@[simp] theorem agentStores_bus (s : State) (l : List Host.Cell) : (s.agentStores l).env.bus = s.env.bus := by
  rw [agentStores_env]

@[simp] theorem drain_bus (s : State) (l : List BusEvent) : (s.drain l).env.bus = s.env.bus := by
  induction l generalizing s with
  | nil => rfl
  | cons x l ih =>
    cases x with
    | stores cells => rw [State.drain, ih, agentStores_bus]
    | reset => rw [State.drain, ih]; rfl

/-- After the end of a step no bus event is left over, and no store waits for a bus that is free. -/
theorem settle_busOk (s : State) : s.settle.busOk = true := by
  have hbus : s.settle.env.bus = [] := by simp [State.settle]
  have hheld : s.settle.ctl.busLock = true ∨ s.settle.env.held = [] := by
    unfold State.settle
    generalize State.drain _ _ = u
    cases hl : u.ctl.busLock with
    | true => exact .inl (by simpa using hl)
    | false => exact .inr (by rw [agentStores_free hl])
  simp only [State.busOk, hbus, decide_true, Bool.true_and, Bool.or_eq_true, decide_eq_true_eq]
  exact hheld

theorem resetEvent_repeatOk (s : State) : s.resetEvent.ctl.repeatOk = true := repeatOk_of_idle rfl rfl

theorem drain_repeatOk {s : State} (h : s.ctl.repeatOk = true) (l : List BusEvent) :
    (s.drain l).ctl.repeatOk = true := by
  induction l generalizing s with
  | nil => exact h
  | cons x l ih =>
    cases x with
    | stores cells => exact ih (by simpa using h)
    | reset => exact ih (resetEvent_repeatOk s)

/-- The end of a step leaves the repetition and the lock as they should be, where they were or where a reset comes. -/
theorem settle_repeatOk {s : State} (h : s.resetReached = true ∨ s.ctl.repeatOk = true) :
    s.settle.ctl.repeatOk = true := by
  have hdrain : ∀ {c : Control}, c.repeatOk = true → { s with ctl := c }.settle.ctl.repeatOk = true := by
    intro c hc
    simpa [State.settle] using
      drain_repeatOk (s := { s with ctl := c, env := { s.env with bus := [] } }) hc s.env.bus
  rcases h with h | h
  · rw [← settle_ctl_of_reset h s.resetEvent.ctl]
    exact hdrain (resetEvent_repeatOk s)
  · exact hdrain h

/-! ## Around the meaning -/

theorem keeps_complete (t : State) (tf0 : Bool) : Keeps t (t.complete tf0) := by
  have hfreed : Keeps t ((t.setPfx Prefixes.empty).setBusLock false) := .of_eq rfl
  unfold State.complete
  dsimp only
  split
  · exact hfreed.trans (keeps_interrupt _ 1 _)
  · exact hfreed

theorem complete_repeatOk {t : State} (h : t.ctl.resume = none) (tf0 : Bool) :
    (t.complete tf0).ctl.repeatOk = true := by
  unfold State.complete
  dsimp only
  split
  · rw [interrupt_ctl]
    exact repeatOk_of_idle h rfl
  · exact repeatOk_of_idle h rfl

theorem keeps_finish (i : Instr) (tf0 shadow : Bool) (t : State) : Keeps t (t.finish i tf0 shadow) := by
  unfold State.finish
  dsimp only
  split
  · exact .of_eq rfl
  · split
    · exact .of_eq rfl
    · exact keeps_complete t tf0

/-- After a meaning that leaves no repetition under way but one of a string instruction under REP or REPNE. -/
theorem finish_repeatOk {i : Instr} (hi : isPrefix i = false) {t : State}
    (h : { t.ctl with busLock := false }.repeatOk = true) (tf0 shadow : Bool) :
    (t.finish i tf0 shadow).ctl.repeatOk = true := by
  unfold State.finish
  simp only [hi, Bool.false_eq_true, if_false]
  cases hr : t.ctl.resume with
  | some r =>
    have hu : t.underWay = true := by simp [State.underWay, hr]
    simp only [Control.repeatOk, hr] at h
    simpa [hu, Control.repeatOk, hr] using h
  | none =>
    split
    · exact repeatOk_of_idle hr (by simp)
    · exact complete_repeatOk hr tf0

theorem preserves_perform {s t : State} {i : Instr} (h : s.perform i = .next t) : Preserves s t := by
  unfold State.perform at h
  split at h
  · cases h; exact .refl s
  · split at h
    · cases h
    · split at h
      next u hu =>
        cases h
        have hlocked : Preserves s ((s.setBusLock (s.ctl.pfx.lock && !isPrefix i)).setInhibit false) :=
          .of_eq rfl rfl rfl
        have hmeaning := (exec_cases hu).elim (·.toPreserves) (·.2.toPreserves)
        exact (hlocked.trans hmeaning).trans (keeps_finish i _ _ u).toPreserves
      · cases h
      · cases h

/-- An instruction of a running processor that no repetition holds up leaves the repetition and the lock as they
should be, or a reset has come. -/
theorem perform_repeatOk {s t : State} {i : Instr} (hr : s.ctl.resume = none) (hrun : s.ctl.run = .running)
    (h : s.perform i = .next t) : t.resetReached = true ∨ t.ctl.repeatOk = true := by
  unfold State.perform at h
  split at h
  next hreset => cases h; exact .inl hreset
  · split at h
    · cases h
    · split at h
      next u hu =>
        cases h
        refine .inr ?_
        cases hi : isPrefix i with
        | true =>
          obtain ⟨p, rfl⟩ := exec_prefix hi hu
          simp only [State.finish, hi, if_true]
          exact repeatOk_of_idle hr (Bool.and_false _)
        | false =>
          refine finish_repeatOk hi ?_ _ _
          rcases exec_cases hu with hk | ⟨hs, hk⟩
          · exact repeatOk_of_idle (hk.resume.trans hr) rfl
          · obtain ⟨ipNext, hresume⟩ := hk.resume
            exact repeatOk_of_repeat hresume hs hk.rep (hk.run.trans hrun)
      · cases h
      · cases h

/-! ## A step -/

theorem keeps_advance (s : State) (n : Nat) : Keeps s (s.advance n) :=
  (keeps_accesses s n).andThen (by simp [State.guarded, State.advance])

theorem advance_ctl (s : State) (n : Nat) :
    (s.advance n).ctl = { s.ctl with
      startIp := if s.ctl.pfx = Prefixes.empty then s.regs.ip else s.ctl.startIp } := rfl

/-- The next iteration of the repetition under way. -/
def State.resumed (s : State) (r : Repeat) : State :=
  { s with regs := { s.regs with ip := r.ipNext }, ctl := { s.ctl with resume := none } }

/-- A running processor goes on with the repetition under way, or runs the instruction that it has fetched, or has
met a reset while it fetched. -/
theorem runInstr_cases {s t : State} (h : s.runInstr = .next t) :
    (∃ r, s.ctl.resume = some r ∧ (s.resumed r).perform r.instr = .next t) ∨
      s.ctl.resume = none ∧ ((∃ i n, (s.advance n).perform i = .next t) ∨
        t.resetReached = true ∧ t = (s.accesses maxLength).drawn s.ctl.stale.length) := by
  unfold State.runInstr at h
  split at h
  next r hr => exact .inl ⟨r, hr, h⟩
  next hr =>
    refine .inr ⟨hr, ?_⟩
    split at h
    next i rest _ => exact .inl ⟨i, _, h⟩
    · unfold State.refuse at h
      split at h
      next hreset => cases h; exact .inr ⟨hreset, rfl⟩
      · cases h
    · cases h

theorem preserves_runInstr {s t : State} (h : s.runInstr = .next t) : Preserves s t := by
  rcases runInstr_cases h with ⟨r, -, hp⟩ | ⟨-, ⟨i, n, hp⟩ | ⟨-, rfl⟩⟩
  · have hresumed : Preserves s (s.resumed r) := .of_eq rfl rfl rfl
    exact hresumed.trans (preserves_perform hp)
  · exact (keeps_advance s n).toPreserves.trans (preserves_perform hp)
  · have hdrawn : Preserves (s.accesses maxLength) ((s.accesses maxLength).drawn s.ctl.stale.length) :=
      .of_eq rfl rfl rfl
    exact (keeps_accesses s maxLength).toPreserves.trans hdrawn

theorem runInstr_repeatOk {s t : State} (hrun : s.ctl.run = .running) (h : s.runInstr = .next t) :
    t.resetReached = true ∨ t.ctl.repeatOk = true := by
  rcases runInstr_cases h with ⟨r, -, hp⟩ | ⟨hr, ⟨i, n, hp⟩ | ⟨hreset, -⟩⟩
  · exact perform_repeatOk (s := s.resumed r) rfl hrun hp
  · exact perform_repeatOk (s := s.advance n) (by rw [advance_ctl]; exact hr) (by rw [advance_ctl]; exact hrun) hp
  · exact .inl hreset

theorem preserves_advanceStep {s t : State} (h : s.advanceStep = .next t) : Preserves s t := by
  unfold State.advanceStep at h
  split at h
  · exact preserves_runInstr h
  · cases h; exact .of_eq rfl rfl rfl
  next ipNext _ =>
    unfold State.waitStep at h
    split at h
    · cases h
      have hover : Preserves s (((s.setInhibit false).setRun .running).setIp ipNext) := .of_eq rfl rfl rfl
      exact hover.trans (keeps_complete _ _).toPreserves
    · cases h; exact .of_eq rfl rfl rfl

theorem advanceStep_repeatOk {s t : State} (hs : s.ctl.repeatOk = true) (h : s.advanceStep = .next t) :
    t.resetReached = true ∨ t.ctl.repeatOk = true := by
  unfold State.advanceStep at h
  split at h
  next hrun => exact runInstr_repeatOk hrun h
  · cases h; exact .inr hs
  next ipNext hrun =>
    unfold State.waitStep at h
    split at h
    · cases h
      have hresume : s.ctl.resume = none := resume_of_repeatOk hs (by rw [hrun]; exact RunState.noConfusion)
      exact .inr (complete_repeatOk (t := ((s.setInhibit false).setRun .running).setIp ipNext) hresume _)
    · cases h; exact .inr hs

/-- A request that is recognised gives up the repetition under way, with the lock, and takes an interrupt. -/
theorem recognise_cases {s t : State} (h : s.recognise = some t) :
    ∃ (e : Env) (n : Byte) (r : Word), t = { s.abandon with env := e }.interrupt n r := by
  unfold State.recognise at h
  split at h
  · cases h
  · split at h
    · split at h
      · cases h; exact ⟨s.env, _, _, rfl⟩
      · split at h
        · cases h; exact ⟨_, _, _, rfl⟩
        · cases h; exact ⟨_, _, _, rfl⟩
    · cases h

theorem preserves_recognise {s t : State} (h : s.recognise = some t) : Preserves s t := by
  obtain ⟨e, n, r, rfl⟩ := recognise_cases h
  have habandoned : Preserves s { s.abandon with env := e } := .of_eq rfl rfl rfl
  exact habandoned.trans (keeps_interrupt _ n r).toPreserves

theorem recognise_repeatOk {s t : State} (h : s.recognise = some t) : t.ctl.repeatOk = true := by
  obtain ⟨e, n, r, rfl⟩ := recognise_cases h
  rw [interrupt_ctl]
  exact repeatOk_of_idle rfl rfl

theorem preserves_deliver (s : State) : Preserves s s.deliver := by
  cases h : s.env.inputs with
  | nil => rw [deliver_quiet h]; exact .refl s
  | cons e rest =>
    rw [deliver_cons h]
    exact (keeps_agentStores s e.writes).toPreserves.trans (.of_eq rfl rfl rfl)

theorem respond_cases {s t : State} (h : s.respond = .next t) :
    t = s.deliver.resetEvent ∨ s.deliver.recognise = some t ∨ s.deliver.advanceStep = .next t := by
  unfold State.respond at h
  split at h
  · cases h; exact .inl rfl
  · split at h
    next hr => cases h; exact .inr (.inl hr)
    · exact .inr (.inr h)

theorem preserves_respond {s t : State} (h : s.respond = .next t) : Preserves s t := by
  refine (preserves_deliver s).trans ?_
  rcases respond_cases h with rfl | hr | hr
  · exact preserves_resetEvent _
  · exact preserves_recognise hr
  · exact preserves_advanceStep hr

theorem respond_repeatOk {s t : State} (hs : s.ctl.repeatOk = true) (h : s.respond = .next t) :
    t.resetReached = true ∨ t.ctl.repeatOk = true := by
  have hd : s.deliver.ctl.repeatOk = true := by rw [deliver_eq s]; exact hs
  rcases respond_cases h with rfl | hr | hr
  · exact .inr (resetEvent_repeatOk _)
  · exact .inr (recognise_repeatOk hr)
  · exact advanceStep_repeatOk hd hr

/-- A step answers the end of a step. -/
theorem step_next {s t : State} (h : step s = .next t) : ∃ u, s.respond = .next u ∧ t = u.settle := by
  have h' : settled s.respond = .next t := h
  cases hr : s.respond with
  | next u =>
    rw [hr] at h'
    cases h'
    exact ⟨u, rfl, rfl⟩
  | fault f => rw [hr] at h'; cases h'
  | refused r => rw [hr] at h'; cases h'

/-! ## The statement -/

/-- The invariant is the soundness of the units on a machine wide enough, with a sound repetition and bus. -/
theorem inv_iff (s : State) :
    s.inv = true ↔ 20 ≤ s.cfg.physBits ∧ s.UnitsOk ∧ s.ctl.repeatOk = true ∧ s.busOk = true := by
  simp only [State.inv, State.memOk, Bool.and_eq_true, decide_eq_true_eq, List.all_eq_true]
  constructor
  · rintro ⟨⟨⟨⟨⟨hwf, hbits⟩, hin⟩, hfpu⟩, hrep⟩, hbus⟩
    exact ⟨hbits, ⟨hwf, hin, hfpu⟩, hrep, hbus⟩
  · rintro ⟨hbits, ⟨hwf, hin, hfpu⟩, hrep, hbus⟩
    exact ⟨⟨⟨⟨⟨hwf, hbits⟩, hin⟩, hfpu⟩, hrep⟩, hbus⟩

/-- Settles O10: what a step does before its end preserves the units and the parameters, and leaves the repetition
and the lock sound or a reset to come; the end of the step does the rest. -/
theorem invKept : Obligations.InvKept := by
  unfold Obligations.InvKept
  intro s t h
  obtain ⟨u, hu, rfl⟩ := step_next h
  have hkept : Preserves s u.settle := (preserves_respond hu).trans (preserves_settle u)
  refine ⟨hkept.cfg, fun hs => ?_⟩
  obtain ⟨hbits, hunits, hrep, -⟩ := (inv_iff s).1 hs
  exact (inv_iff _).2 ⟨hkept.cfg ▸ hbits, hkept.units hunits, settle_repeatOk (respond_repeatOk hrep hu),
    settle_busOk u⟩

end Sys2Proof.Machine
end


section
/-! SUPPORT. One access with an event from outside before it; and the accesses of an instruction that has the bus
locked, which sees nothing of the stores that come meanwhile: its run beside the one to which nothing comes. -/

namespace Sys2Proof.Machine

/-! ## One access -/

/-- The event is a store, so no reset has come. -/
theorem resetReached_stores {s : State} {cells : List Host.Cell} {rest : List BusEvent}
    (h : s.env.bus = .stores cells :: rest) : s.resetReached = false := by
  simp [State.resetReached, h]

theorem access_stores {s : State} {cells : List Host.Cell} {rest : List BusEvent}
    (h : s.env.bus = .stores cells :: rest) :
    s.access = { s with env := { s.env with bus := rest } }.agentStores cells := by
  rw [State.access, h]

theorem write8_running {s : State} (h : s.resetReached = false) (seg off : Word) (v : Byte) :
    s.write8 seg off v = s.access.store (phys s.cfg seg off) v := by
  rw [State.write8, h]
  rfl

/-- A byte access in the state that the event before it leaves. -/
theorem byteAccess_running {s a : State} (hr : s.resetReached = false) (ha : s.access = a) (seg off : Word)
    (v : Byte) :
    s.read8 seg off = Memory.read a.mem (phys s.cfg seg off) ∧
      (s.write8 seg off v).mem = Memory.write a.mem (phys s.cfg seg off) v ∧ (s.write8 seg off v).env = a.env := by
  rw [write8_running hr, State.read8, ha]
  exact ⟨rfl, rfl, rfl⟩

section
variable {s : State} (h : s.resetReached = true)
include h

theorem write8_of_reset (seg off : Word) (v : Byte) : s.write8 seg off v = s := if_pos h

theorem portRead_of_reset (port : Word) : s.portRead port = s := if_pos h

theorem portWrite_of_reset (port : Word) (v : Byte) : s.portWrite port v = s := if_pos h

end

/-! ## The run to which nothing comes, and the run under the lock -/

/-- `s` with no bus event to come. -/
def State.alone (s : State) : State := { s with env := { s.env with bus := [] } }

/-- `v` where the first `k` bus events of `e` have come and wait, with the stores that waited before. -/
def State.heard (v : State) (e : Env) (k : Nat) : State :=
  { v with env := { v.env with bus := e.bus.drop k, held := e.held ++ cellsOf (e.bus.take k) } }

/-- The run to which nothing comes is at `v`, the one to which the bus events of `e` come is at `u`: the bus is
locked, and `u` is `v` with the events so far waiting. -/
structure Heard (e : Env) (v u : State) : Prop where
  still : v.still
  locked : v.ctl.busLock = true
  heard : ∃ k, u = v.heard e k

theorem heard_alone (s : State) : s.alone.heard s.env 0 = s := by
  have hheld : s.env.held ++ cellsOf (s.env.bus.take 0) = s.env.held := List.append_nil _
  rw [State.heard, hheld]
  rfl

theorem cellsOf_append (l k : List BusEvent) : cellsOf (l ++ k) = cellsOf l ++ cellsOf k := by
  induction l with
  | nil => rfl
  | cons x l ih =>
    cases x with
    | stores cells => simp only [List.cons_append, cellsOf, ih, List.append_assoc]
    | reset => exact ih

/-- An operation on registers, flags and draws: it neither sees nor changes what comes from outside. -/
structure Deaf {α : Type} (op : State → α × State) : Prop where
  heard : ∀ v e k, op (v.heard e k) = ((op v).1, (op v).2.heard e k)
  env : ∀ v, (op v).2.env = v.env
  busLock : ∀ v, (op v).2.ctl.busLock = v.ctl.busLock

section
variable {e : Env} (he : ∀ x ∈ e.bus, x ≠ .reset) {v u : State}

include he in
/-- Under the lock an access lets the next event come, which waits. -/
theorem heard_access (hl : v.ctl.busLock = true) (k : Nat) : (v.heard e k).access = v.heard e (k + 1) := by
  have htake : e.bus.take (k + 1) = e.bus.take k ++ (e.bus.drop k).head?.toList := by
    rw [List.take_add_one, List.head?_drop]
  have hdrop : e.bus.drop (k + 1) = (e.bus.drop k).tail := List.tail_drop.symm
  have hnone : ∀ x ∈ e.bus.drop k, x ≠ .reset := fun x hx => he x (List.mem_of_mem_drop hx)
  have hbus : (v.heard e k).env.bus = e.bus.drop k := rfl
  cases hd : e.bus.drop k with
  | nil =>
    rw [access_still (hbus.trans hd), State.heard, State.heard, htake, hdrop, hd]
    simp
  | cons x rest =>
    cases x with
    | stores cells =>
      rw [access_stores (hbus.trans hd), agentStores_locked (by exact hl), State.heard, State.heard, htake, hdrop, hd]
      simp [cellsOf_append, cellsOf]
    | reset => exact absurd rfl (hnone _ (hd ▸ List.mem_cons_self))

include he in
theorem heard_accesses (hl : v.ctl.busLock = true) (k n : Nat) :
    (v.heard e k).accesses n = v.heard e (k + n) := by
  induction n generalizing k with
  | zero => rfl
  | succ n ih => rw [State.accesses, heard_access he hl, ih, Nat.add_assoc, Nat.add_comm 1]

include he in
theorem heard_running (k : Nat) : (v.heard e k).resetReached = false := by
  have hne : (e.bus.drop k).head? ≠ some .reset := fun hh =>
    he _ (List.mem_of_mem_drop (List.mem_of_mem_head? hh)) rfl
  exact decide_eq_false hne

namespace Heard

theorem update (h : Heard e v u) {α : Type} {op : State → α × State} (hop : Deaf op) :
    (op u).1 = (op v).1 ∧ Heard e (op v).2 (op u).2 := by
  obtain ⟨hs, hl, k, rfl⟩ := h
  rw [hop.heard]
  exact ⟨rfl, (hop.env v ▸ hs : (op v).2.env.bus = []), (hop.busLock v).trans hl, k, rfl⟩

theorem place (h : Heard e v u) (rm : Rm) : u.place rm = v.place rm := by
  obtain ⟨-, -, k, rfl⟩ := h
  cases rm <;> rfl

theorem reg (h : Heard e v u) (w : Width) (n : Bits3) : u.reg w n = v.reg w n := by
  obtain ⟨-, -, k, rfl⟩ := h
  rfl

theorem setReg (h : Heard e v u) (w : Width) (n : Bits3) (x : BitVec w.bits) :
    Heard e (v.setReg w n x) (u.setReg w n x) := by
  obtain ⟨hs, hl, k, rfl⟩ := h
  exact ⟨hs, hl, k, rfl⟩

variable (h : Heard e v u)
include he h

theorem accesses (n : Nat) : Heard e (v.accesses n) (u.accesses n) := by
  obtain ⟨hs, hl, k, rfl⟩ := h
  rw [heard_accesses he hl, accesses_still hs]
  exact ⟨hs, hl, k + n, rfl⟩

theorem read8 (seg off : Word) : u.read8 seg off = v.read8 seg off := by
  obtain ⟨hs, hl, k, rfl⟩ := h
  rw [State.read8, heard_access he hl, State.read8, access_still hs]
  rfl

theorem read16 (seg off : Word) : u.read16 seg off = v.read16 seg off := by
  have hhigh : u.access.read8 seg (off + 1) = v.access.read8 seg (off + 1) := (h.accesses he 1).read8 he seg _
  rw [State.read16, h.read8 he, hhigh]
  rfl

theorem readMem (seg off : Word) (w : Width) : u.readMem seg off w = v.readMem seg off w := by
  cases w with
  | byte => exact h.read8 he seg off
  | word => exact h.read16 he seg off

theorem rmRead (w : Width) (rm : Rm) : u.rmRead w rm = v.rmRead w rm := by
  rw [State.rmRead, State.rmRead, h.place]
  cases v.place rm with
  | reg n => exact h.reg w n
  | mem seg off => exact h.readMem he seg off w

theorem rmAfter (w : Width) (rm : Rm) : Heard e (v.rmAfter w rm) (u.rmAfter w rm) := by
  rw [State.rmAfter, State.rmAfter, h.place]
  cases v.place rm with
  | reg n => exact h
  | mem seg off => exact h.accesses he _

theorem write8 (seg off : Word) (x : Byte) : Heard e (v.write8 seg off x) (u.write8 seg off x) := by
  obtain ⟨hs, hl, k, rfl⟩ := h
  rw [write8_running (heard_running he k), heard_access he hl, write8_still hs]
  exact ⟨hs, hl, k + 1, rfl⟩

theorem writeMem (seg off : Word) (w : Width) (x : BitVec w.bits) :
    Heard e (v.writeMem seg off w x) (u.writeMem seg off w x) := by
  cases w with
  | byte => exact h.write8 he seg off x
  | word => exact (h.write8 he seg off _).write8 he _ _ _

theorem rmWrite (w : Width) (rm : Rm) (x : BitVec w.bits) : Heard e (v.rmWrite w rm x) (u.rmWrite w rm x) := by
  rw [State.rmWrite, State.rmWrite, h.place]
  cases v.place rm with
  | reg n => exact h.setReg w n x
  | mem seg off => exact h.writeMem he seg off w x

/-! ## The read-modify-write forms -/

/-- An operand that is read, and written with what an operation makes of it. -/
theorem modify (w : Width) (rm : Rm) {op : BitVec w.bits → State → BitVec w.bits × State}
    (hop : ∀ a, Deaf (op a)) : Heard e (v.formUnary w rm op) (u.formUnary w rm op) := by
  obtain ⟨hvalue, hstate⟩ := (h.rmAfter he w rm).update (hop (v.rmRead w rm))
  simp only [State.formUnary, h.rmRead he]
  rw [hvalue]
  exact hstate.rmWrite he w rm _

theorem formRm (w : Width) (rm : Rm) (n : Bits3) {op : BinaryOp w} (hop : ∀ a b, Deaf (op a b)) :
    Heard e (v.formRm .toRm w rm n op) (u.formRm .toRm w rm n op) := by
  have hmodify := h.modify he w rm fun a => hop a (v.reg w n)
  simp only [State.formRm, h.reg]
  exact hmodify

theorem formImm (w : Width) (rm : Rm) (imm : BitVec w.bits) {op : BinaryOp w} (hop : ∀ a b, Deaf (op a b)) :
    Heard e (v.formImm w rm imm op) (u.formImm w rm imm op) := h.modify he w rm fun a => hop a imm

theorem changeBit (rm : Rm) (position : Nat) (change : Word → Word → Word) :
    Heard e (v.changeBit rm position change) (u.changeBit rm position change) :=
  h.modify he .word rm (op := fun d z => (change d (bitMask position), z.testBit d position)) fun _ =>
    ⟨fun _ _ _ => rfl, fun _ => rfl, fun _ => rfl⟩

theorem shift (op : ShiftOp) (w : Width) (rm : Rm) (count : Nat) :
    Heard e (v.shift op w rm count) (u.shift op w rm count) := by
  have hflags : u.flags = v.flags ∧ u.draws = v.draws := by
    obtain ⟨-, -, k, rfl⟩ := h
    exact ⟨rfl, rfl⟩
  simp only [State.shift, h.rmRead he, hflags.1, hflags.2]
  split
  · exact h.rmAfter he w rm
  · obtain ⟨hs, hl, k, hk⟩ := (h.rmAfter he w rm).rmWrite he w rm (op.steps count (v.rmRead w rm) v.flags.CF).1
    rw [hk]
    exact ⟨hs, hl, k, rfl⟩

theorem xchg (w : Width) (rm : Rm) (n : Bits3) (x : BitVec w.bits) :
    Heard e (((v.rmAfter w rm).rmWrite w rm x).setReg w n (v.rmRead w rm))
      (((u.rmAfter w rm).rmWrite w rm x).setReg w n (u.rmRead w rm)) := by
  rw [h.rmRead he]
  exact ((h.rmAfter he w rm).rmWrite he w rm x).setReg w n _

end Heard

end

/-! ## The instructions -/

/-- `i` does in `s` what it does alone, and the stores that came meanwhile all wait. -/
def SameAsAlone (i : Instr) (s : State) : Prop :=
  ∃ t k, exec i s.alone = .next t ∧ exec i s = .next (t.heard s.env k)

theorem sameAsAlone_of_heard {i : Instr} {s v u : State} (hv : exec i s.alone = .next v) (hu : exec i s = .next u)
    (h : Heard s.env v u) : SameAsAlone i s := by
  obtain ⟨-, -, k, rfl⟩ := h
  exact ⟨v, k, hv, hu⟩

section
variable {w : Width}

theorem deaf_opAdd (c : Bool) (a b : BitVec w.bits) : Deaf (opAdd c a b) :=
  ⟨fun _ _ _ => rfl, fun _ => rfl, fun _ => rfl⟩
theorem deaf_opSub (c : Bool) (a b : BitVec w.bits) : Deaf (opSub c a b) :=
  ⟨fun _ _ _ => rfl, fun _ => rfl, fun _ => rfl⟩
theorem deaf_opAnd (a b : BitVec w.bits) : Deaf (opAnd a b) := ⟨fun _ _ _ => rfl, fun _ => rfl, fun _ => rfl⟩
theorem deaf_opOr (a b : BitVec w.bits) : Deaf (opOr a b) := ⟨fun _ _ _ => rfl, fun _ => rfl, fun _ => rfl⟩
theorem deaf_opXor (a b : BitVec w.bits) : Deaf (opXor a b) := ⟨fun _ _ _ => rfl, fun _ => rfl, fun _ => rfl⟩
theorem deaf_opInc (a : BitVec w.bits) : Deaf (opInc a) := ⟨fun _ _ _ => rfl, fun _ => rfl, fun _ => rfl⟩
theorem deaf_opDec (a : BitVec w.bits) : Deaf (opDec a) := ⟨fun _ _ _ => rfl, fun _ => rfl, fun _ => rfl⟩
theorem deaf_opNeg (a : BitVec w.bits) : Deaf (opNeg a) := ⟨fun _ _ _ => rfl, fun _ => rfl, fun _ => rfl⟩

/-- NOT as an operation of one operand. -/
def opNot (a : BitVec w.bits) (z : State) : BitVec w.bits × State := (~~~a, z)

theorem deaf_opNot (a : BitVec w.bits) : Deaf (opNot a) := ⟨fun _ _ _ => rfl, fun _ => rfl, fun _ => rfl⟩

end

/-- XCHG locks the bus itself (D37; log 36). -/
theorem sameAsAlone_xchgRm {s : State} (he : ∀ x ∈ s.env.bus, x ≠ .reset) (w : Width) (rm : Rm) (n : Bits3) :
    SameAsAlone (.xchgRm w rm n) s := by
  have h : Heard s.env (s.alone.setBusLock true) (s.setBusLock true) :=
    ⟨rfl, rfl, 0, congrArg (State.setBusLock · true) (heard_alone s).symm⟩
  obtain ⟨-, -, k, hk⟩ := h.xchg he w rm n (s.reg w n)
  exact ⟨_, k, rfl, congrArg (fun z : State => Host.Outcome.next (z.setBusLock s.ctl.busLock)) hk⟩

/-! ## The statement -/

/-- Settles O8: one access by the event that stands before it; the instructions that read and write an operand by
their run beside the one to which nothing comes. -/
theorem busAccesses : Obligations.BusAccesses := by
  unfold Obligations.BusAccesses
  intro s seg off port v cells rest
  refine ⟨fun hb hl => ?free, fun hb hl => ?locked, fun hb => ?reset, fun hl he w rm n imm b c => ?modify,
    sameAsAlone_xchgRm, accesses_still⟩
  case free =>
    have haccess := (access_stores hb).trans (agentStores_free (by exact hl) cells)
    exact ⟨haccess, byteAccess_running (resetReached_stores hb) haccess seg off v⟩
  case locked =>
    have haccess := (access_stores hb).trans (agentStores_locked (by exact hl) cells)
    exact ⟨haccess, byteAccess_running (resetReached_stores hb) haccess seg off v⟩
  case reset =>
    have hr : s.resetReached = true := by simp [State.resetReached, hb]
    exact ⟨access_of_reset hr, write8_of_reset hr seg off v, portRead_of_reset hr port,
      portWrite_of_reset hr port v⟩
  case modify =>
    have h : Heard s.env s.alone s := ⟨rfl, hl, 0, (heard_alone s).symm⟩
    have run : ∀ {i : Instr} {v u : State}, exec i s.alone = .next v → exec i s = .next u → Heard s.env v u →
        SameAsAlone i s := sameAsAlone_of_heard
    simp only [List.forall_mem_cons, List.not_mem_nil, false_implies, implies_true, and_true]
    exact ⟨run rfl rfl (h.formRm he w rm n (deaf_opAdd _)), run rfl rfl (h.formRm he w rm n (deaf_opAdd _)),
      run rfl rfl (h.formRm he w rm n (deaf_opSub _)), run rfl rfl (h.formRm he w rm n (deaf_opSub _)),
      run rfl rfl (h.formRm he w rm n deaf_opAnd), run rfl rfl (h.formRm he w rm n deaf_opOr),
      run rfl rfl (h.formRm he w rm n deaf_opXor),
      run rfl rfl (h.formImm he w rm imm (deaf_opAdd _)), run rfl rfl (h.formImm he w rm imm (deaf_opAdd _)),
      run rfl rfl (h.formImm he w rm imm (deaf_opSub _)), run rfl rfl (h.formImm he w rm imm (deaf_opSub _)),
      run rfl rfl (h.formImm he w rm imm deaf_opAnd), run rfl rfl (h.formImm he w rm imm deaf_opOr),
      run rfl rfl (h.formImm he w rm imm deaf_opXor),
      run rfl rfl (h.formImm he .word rm _ (deaf_opAdd _)), run rfl rfl (h.formImm he .word rm _ (deaf_opAdd _)),
      run rfl rfl (h.formImm he .word rm _ (deaf_opSub _)), run rfl rfl (h.formImm he .word rm _ (deaf_opSub _)),
      run rfl rfl (h.modify he w rm deaf_opInc), run rfl rfl (h.modify he w rm deaf_opDec),
      run rfl rfl (h.modify he w rm deaf_opNeg), run rfl rfl (h.modify he w rm deaf_opNot),
      sameAsAlone_xchgRm he w rm n,
      run rfl rfl (h.shift he .rol w rm _), run rfl rfl (h.shift he .ror w rm _),
      run rfl rfl (h.shift he .rcl w rm _), run rfl rfl (h.shift he .rcr w rm _),
      run rfl rfl (h.shift he .shl w rm _), run rfl rfl (h.shift he .shr w rm _),
      run rfl rfl (h.shift he .sar w rm _),
      run rfl rfl (h.changeBit he rm _ _), run rfl rfl (h.changeBit he rm _ _),
      run rfl rfl (h.changeBit he rm _ _), run rfl rfl (h.changeBit he rm _ _),
      run rfl rfl (h.changeBit he rm _ _), run rfl rfl (h.changeBit he rm _ _)⟩

end Sys2Proof.Machine
end


section
/-! SUPPORT. Operands in memory, byte by byte: an access of n and one of m bytes above it are one of n + m bytes. -/

namespace Sys2Proof.Machine

/-- `read` and `write` are the access of n bytes at an offset of a segment, low byte first (R75), where nothing comes
from outside between the bytes. -/
structure ByteAccess (n : Nat) {b : Nat} (read : State → Word → Word → BitVec b)
    (write : State → Word → Word → BitVec b → State) : Prop where
  width : b = 8 * n
  bytes : ∀ {s : State}, s.still → ∀ seg off k, k < n →
    (read s seg off).extractLsb' (8 * k) 8 = s.read8 seg (off + BitVec.ofNat 16 k)
  stores : ∀ {s : State}, s.still → ∀ seg off v, Stores s (write s seg off v) (bytesAt s.cfg seg off n)
  readBack : ∀ {s : State}, s.still → s.memOk = true → ∀ seg off v, read (write s seg off v) seg off = v

theorem byteAccess_one : ByteAccess 1 State.read8 State.write8 where
  width := rfl
  bytes _ seg off k hk := by
    obtain rfl : k = 0 := by omega
    simp
  stores := stores_write8
  readBack := read8_write8

/-! ## Neighbouring bytes -/

theorem eq_of_bytes {b n : Nat} (hb : b = 8 * n) {x y : BitVec b}
    (h : ∀ k < n, x.extractLsb' (8 * k) 8 = y.extractLsb' (8 * k) 8) : x = y := by
  apply BitVec.eq_of_getLsbD_eq
  intro i hi
  have hbyte := congrArg (BitVec.getLsbD · (i % 8)) (h (i / 8) (by omega))
  simpa [Nat.mod_lt, Nat.div_add_mod] using hbyte

/-- The bytes of two values, one above the other. -/
theorem append_byte {a b n : Nat} (hb : b = 8 * n) (hi : BitVec a) (lo : BitVec b) (k : Nat) :
    (hi ++ lo).extractLsb' (8 * k) 8 =
      if k < n then lo.extractLsb' (8 * k) 8 else hi.extractLsb' (8 * (k - n)) 8 := by
  split
  · exact BitVec.extractLsb'_append_eq_of_add_le (by omega)
  · rw [BitVec.extractLsb'_append_eq_of_le (by omega), hb, Nat.mul_sub]

theorem append_parts {a b : Nat} (v : BitVec (a + b)) : v.extractLsb' b a ++ v.extractLsb' 0 b = v := by
  rw [BitVec.extractLsb'_append_extractLsb'_eq_extractLsb' (Nat.zero_add b).symm, BitVec.extractLsb'_eq_self]

/-- A store to the m bytes above n others leaves those as they were. -/
theorem Stores.read8_below {s t : State} {seg off : Word} {m n k : Nat} (hs : s.still) (hm : s.memOk = true)
    (h : Stores s t (bytesAt s.cfg seg (off + BitVec.ofNat 16 n) m)) (hk : k < n) (hnm : n + m ≤ 65536) :
    t.read8 seg (off + BitVec.ofNat 16 k) = s.read8 seg (off + BitVec.ofNat 16 k) := by
  apply h.read8 hs
  apply not_mem_bytesAt (State.memOk_bits hm) _ (by omega)
  intro j hj
  have := off.isLt
  simp only [BitVec.toNat_add, BitVec.toNat_ofNat, Nat.reducePow]
  omega

section
variable {a b n m : Nat} {low : State → Word → Word → BitVec b} {high : State → Word → Word → BitVec a}
  {read : State → Word → Word → BitVec (a + b)} {writeLow : State → Word → Word → BitVec b → State}
  {writeHigh : State → Word → Word → BitVec a → State} {write : State → Word → Word → BitVec (a + b) → State}

/-- An access of n bytes, then one of the m bytes above them. -/
theorem ByteAccess.append (hl : ByteAccess n low writeLow) (hh : ByteAccess m high writeHigh)
    (hnm : n + m ≤ 65536)
    (hread : ∀ {s : State}, s.still → ∀ seg off,
      read s seg off = high s seg (off + BitVec.ofNat 16 n) ++ low s seg off)
    (hwrite : ∀ (s : State) seg off v, write s seg off v =
      writeHigh (writeLow s seg off (v.extractLsb' 0 b)) seg (off + BitVec.ofNat 16 n) (v.extractLsb' b a)) :
    ByteAccess (n + m) read write where
  width := by rw [hl.width, hh.width]; omega
  bytes hs seg off k hk := by
    rw [hread hs, append_byte hl.width]
    split
    next hkn => exact hl.bytes hs seg off k hkn
    next hkn =>
      rw [hh.bytes hs _ _ _ (by omega), BitVec.add_assoc, ← BitVec.ofNat_add, Nat.add_sub_cancel' (by omega)]
  stores {s} hs seg off v := by
    have hlow := hl.stores hs seg off (v.extractLsb' 0 b)
    rw [hwrite]
    exact hlow.join (hh.stores (hlow.still hs) seg _ _)
  readBack {s} hs hm seg off v := by
    have hlow := hl.stores hs seg off (v.extractLsb' 0 b)
    have hs1 := hlow.still hs
    have hm1 := hlow.memOk hm
    have hhigh := hh.stores hs1 seg (off + BitVec.ofNat 16 n) (v.extractLsb' b a)
    have hs2 := hhigh.still hs1
    have hkept : low (write s seg off v) seg off = low (writeLow s seg off (v.extractLsb' 0 b)) seg off := by
      rw [hwrite]
      refine eq_of_bytes hl.width fun k hk => ?_
      rw [hl.bytes hs2 _ _ _ hk, hhigh.read8_below hs1 hm1 hk hnm, hl.bytes hs1 _ _ _ hk]
    rw [hread (by rw [hwrite]; exact hs2), hkept, hl.readBack hs hm, hwrite, hh.readBack hs1 hm1, append_parts]

end

/-! ## The widths -/

theorem byteAccess_two : ByteAccess 2 State.read16 State.write16 :=
  byteAccess_one.append byteAccess_one (by omega) (a := 8) (b := 8) read16_still fun _ _ _ _ => rfl

theorem byteAccess_four : ByteAccess 4 State.read32 State.write32 :=
  byteAccess_two.append byteAccess_two (by omega) (a := 16) (b := 16) read32_still fun _ _ _ _ => rfl

theorem byteAccess_eight : ByteAccess 8 State.read64 State.write64 :=
  byteAccess_four.append byteAccess_four (by omega) (a := 32) (b := 32) read64_still fun _ _ _ _ => rfl

theorem byteAccess_ten : ByteAccess 10 State.read80 State.write80 :=
  byteAccess_eight.append byteAccess_two (by omega) (a := 16) (b := 64) read80_still fun _ _ _ _ => rfl

/-- Settles O23: each width is an access of its bytes. -/
theorem memoryAccess : Obligations.MemoryAccess := by
  unfold Obligations.MemoryAccess
  intro s seg off a b c d e
  refine ⟨fun t hcfg ht => ⟨byteAccess_two.bytes ht seg off, byteAccess_four.bytes ht seg off,
    byteAccess_eight.bytes ht seg off, byteAccess_ten.bytes ht seg off, ?byte⟩, fun hs hm => ?write⟩
  case byte => rw [read8_still ht, hcfg]; rfl
  case write =>
    exact ⟨byteAccess_one.readBack hs hm seg off a, (byteAccess_one.stores hs seg off a).same,
      byteAccess_two.readBack hs hm seg off b, (byteAccess_two.stores hs seg off b).same,
      byteAccess_four.readBack hs hm seg off c, (byteAccess_four.stores hs seg off c).same,
      byteAccess_eight.readBack hs hm seg off d, (byteAccess_eight.stores hs seg off d).same,
      byteAccess_ten.readBack hs hm seg off e, (byteAccess_ten.stores hs seg off e).same⟩

end Sys2Proof.Machine
end


section
/-! SUPPORT. What prefetch may hold: which stores add to it, which byte a fetch takes, and what discards it. -/

namespace Sys2Proof.Machine

/-! ## Stores -/

/-- The addresses of the window: those of the first PREFETCH_BYTES offsets after the instruction. -/
theorem mem_window {s : State} {a : Nat} :
    a ∈ s.window ↔
      ∃ j, j < s.cfg.prefetchBytes ∧ a = phys s.cfg s.regs.cs (s.regs.ip + BitVec.ofNat 16 j) := by
  simp only [State.window, List.mem_map, List.mem_range, eq_comm]

theorem store_stale_inside {s : State} {a : Nat} (h : a ∈ s.window) (v : Byte) :
    (s.store a v).ctl.stale = (a, Memory.read s.mem a) :: s.ctl.stale := if_pos h

theorem store_stale_outside {s : State} {a : Nat} (h : a ∉ s.window) (v : Byte) :
    (s.store a v).ctl.stale = s.ctl.stale := if_neg h

/-! ## Fetch -/

/-- A byte fetched is the one memory holds, or one that prefetch may hold of its address. -/
theorem staleByte_cases (addr : Nat) (current : Byte) (draw : Nat) (l : List Host.Cell) :
    staleByte addr current draw l = current ∨ ∃ c ∈ l, c.1 = addr ∧ staleByte addr current draw l = c.2 := by
  induction l generalizing draw with
  | nil => exact .inl rfl
  | cons c l ih =>
    obtain ⟨a, old⟩ := c
    have hrest : staleByte addr current (draw + 1) l = current ∨
        ∃ c ∈ (a, old) :: l, c.1 = addr ∧ staleByte addr current (draw + 1) l = c.2 :=
      (ih (draw + 1)).imp_right fun ⟨c, hc, heq⟩ => ⟨c, List.mem_cons_of_mem _ hc, heq⟩
    rw [staleByte]
    split
    next ha =>
      split
      · exact .inr ⟨(a, old), List.mem_cons_self, ha, rfl⟩
      · exact hrest
    · exact hrest

/-- With one such byte a free draw decides. -/
theorem staleByte_one (addr : Nat) (current old : Byte) (draw : Nat) :
    staleByte addr current draw [(addr, old)] = if Config.freeBit draw = true then old else current := by
  rw [staleByte, if_pos rfl]
  rfl

/-! ## The statement -/

/-- Settles O9: the window of a store, the choice of a fetch, and the two that discard what was prefetched. -/
theorem prefetchWindow : Obligations.PrefetchWindow := by
  unfold Obligations.PrefetchWindow
  intro s a v k n r
  refine ⟨rfl, fun hin => store_stale_inside (mem_window.2 hin) v, fun hout => store_stale_outside ?_ v,
    staleByte_cases _ _ _ _, fun hone => ?_, rfl, rfl⟩
  · intro hmem
    obtain ⟨j, hj, ha⟩ := mem_window.1 hmem
    exact hout j hj ha
  · rw [State.fetchByte, hone]
    exact staleByte_one _ _ _ _

end Sys2Proof.Machine
end


section
/-! SUPPORT. The decoder on the encoding of an instruction: what each form reads back from its operand bytes, and the
statement that decoding inverts encoding. -/

namespace Sys2Proof

/-- An instruction is well-formed when its part is decoded and its operands have an encoding. -/
theorem Instr.wellFormed_iff {c : Config} {i : Instr} :
    i.wellFormed c = true ↔ c.decodes i.part = true ∧ i.operandsOk c = true := by
  rw [Instr.wellFormed, Bool.and_eq_true]

/-- A form with a MOD REG R/M byte reads the operand back from its encoding, and goes on with the bytes after it. -/
theorem parse_modrmForm (k : Bits3 → Rm → Tail) (r : Bits3) {rm : Rm} (h : rm.encodable = true)
    (bs : List Byte) : (Form.modrm k).parse (modrm r rm ++ bs) = (k r rm).parse bs := by
  rw [Form.parse, parseModRM_modrm r rm bs h]

theorem parse_modrmForm_append (k : Bits3 → Rm → Tail) (r : Bits3) {rm : Rm} (h : rm.encodable = true)
    (ops bs : List Byte) : (Form.modrm k).parse (modrm r rm ++ ops ++ bs) = (k r rm).parse (ops ++ bs) := by
  rw [List.append_assoc, parse_modrmForm k r h]

theorem Tail.parse_word (k : Word → Instr) (v : Word) (bs : List Byte) :
    (Tail.word k).parse (wordBytes v ++ bs) = .ok (k v, bs) := Tail.parse_imm .word k v bs

theorem Tail.parse_far (k : Word → Word → Instr) (off sg : Word) (bs : List Byte) :
    (Tail.far k).parse (wordBytes off ++ wordBytes sg ++ bs) = .ok (k off sg, bs) := by
  simp [wordBytes, Tail.parse, joinBytes_wordBytes]

/-- Where the 80386 rows are decoded, 0F escapes to the second opcode map (R142). -/
theorem decode_0F {c : Config} (h : c.decodes .ext80386 = true) (b : Byte) (bs : List Byte) :
    decode c (0x0F :: b :: bs) = (opcodes0F b).parse bs := by
  rw [decode, if_pos rfl, if_pos h, decode0F]

theorem ifPart_parse {c : Config} {p : IsaPart} (h : c.decodes p = true) (f : Form) (bs : List Byte) :
    (Form.ifPart c p f).parse bs = f.parse bs := by rw [Form.ifPart, if_pos h]

theorem parse_memory {rm : Rm} (h : rm.inMemory = true) (i : Instr) (bs : List Byte) :
    (Tail.memory rm (.done i)).parse bs = .ok (i, bs) := by
  rw [Tail.memory, if_pos h]; rfl

/-- An ESC encoding that R424 lists gives the 8087 instruction where there is an 8087 (R131). -/
theorem parse_escForm {c : Config} (h8 : c.has8087 = true) {x1 x2 : Bits3} {rm : Rm} (h : rm.encodable = true)
    {i : Instr} (hi : fpuInstr x1 x2 rm = some i) (bs : List Byte) :
    (Form.modrm (escTail c x1)).parse (modrm x2 rm ++ bs) = .ok (i, bs) := by
  rw [parse_modrmForm _ _ h, escTail, if_pos h8, hi]; rfl

/-- An ESC encoding that is no 8087 instruction, or without an 8087, is ESC (R131, R409). -/
theorem escTail_esc {c : Config} {x1 x2 : Bits3} {rm : Rm}
    (h : (c.has8087 && (fpuInstr x1 x2 rm).isSome) = false) :
    escTail c x1 x2 rm = .done (.esc x1 x2 rm) := by
  unfold escTail
  split
  next h8 =>
    rw [h8, Bool.true_and, Option.isSome_eq_false_iff, Option.isNone_iff_eq_none] at h
    rw [h]; rfl
  next => rfl

/-- Settles O1, one case for each layout of the encoding: the opcode bytes select the form, by evaluation once the
bits W, D and v and a register number in them are fixed, and the form reads back the operands. -/
theorem decodeEncode : Obligations.DecodeEncode := by
  unfold Obligations.DecodeEncode
  intro c i rest hi
  obtain ⟨hp, ho⟩ := Instr.wellFormed_iff.1 hi
  cases i with
  | pushEs | popEs | pushCs | pushSs | popSs | pushDs | popDs | segEs | segCs | segSs | segDs | daa | das | aaa | aas
  | nop | cbw | cwd | wait | pushf | popf | sahf | lahf | ret | retFar | int3 | into | iret | aam | aad | xlat
  | lock | repne | rep | hlt | cmc | clc | stc | cli | sti | cld | std
  | jo | jno | jb | jae | je | jne | jbe | ja | js | jns | jp | jnp | jl | jge | jle | jg
  | intN | loopne | loope | loop | jcxz | jmpShort => rfl
  | incReg r | decReg r | pushReg r | popReg r => cases r <;> rfl
  | xchgAcc r =>
    cases r with
    | b000 => cases ho
    | _ => rfl
  | movs w | cmps w | stos w | lods w | scas w | inFixed w | outFixed w | inDx w | outDx w => cases w <;> rfl
  | addAcc w imm | orAcc w imm | adcAcc w imm | sbbAcc w imm | andAcc w imm | subAcc w imm | xorAcc w imm
  | cmpAcc w imm | testAcc w imm => cases w <;> exact Tail.parse_imm _ _ imm rest
  | movRegImm w r imm => cases w <;> cases r <;> exact Tail.parse_imm _ _ imm rest
  | movAccMem w a | movMemAcc w a => cases w <;> exact Tail.parse_word _ a rest
  | retPop v | retFarPop v | callNear v | jmpNear v => exact Tail.parse_word _ v rest
  | callFar off sg | jmpFar off sg => exact Tail.parse_far _ off sg rest
  | addRm d w rm r | orRm d w rm r | adcRm d w rm r | sbbRm d w rm r | andRm d w rm r | subRm d w rm r | xorRm d w rm r
  | cmpRm d w rm r | movRm d w rm r => cases d <;> cases w <;> exact parse_modrmForm _ r ho rest
  | testRm w rm r | xchgRm w rm r => cases w <;> exact parse_modrmForm _ r ho rest
  | not w rm | neg w rm | mul w rm | imul w rm | div w rm | idiv w rm | incRm w rm | decRm w rm =>
    cases w <;> exact parse_modrmForm _ _ ho rest
  | rol v w rm | ror v w rm | rcl v w rm | rcr v w rm | shl v w rm | shr v w rm | sar v w rm =>
    cases v <;> cases w <;> exact parse_modrmForm _ _ ho rest
  | popRm rm | callInd rm | jmpInd rm | pushRm rm => exact parse_modrmForm _ _ ho rest
  | addImm w rm imm | orImm w rm imm | adcImm w rm imm | sbbImm w rm imm | andImm w rm imm | subImm w rm imm
  | xorImm w rm imm | cmpImm w rm imm | movRmImm w rm imm | testImm w rm imm =>
    cases w <;> exact (parse_modrmForm_append _ _ ho _ rest).trans (Tail.parse_imm _ _ imm rest)
  | addImmS rm v | adcImmS rm v | sbbImmS rm v | subImmS rm v | cmpImmS rm v =>
    exact parse_modrmForm_append _ _ ho [v] rest
  | movRmSeg rm sr => cases sr <;> exact parse_modrmForm _ _ ho rest
  | movSegRm sr rm =>
    obtain ⟨hsr, he⟩ := Bool.and_eq_true_iff.1 ho
    cases sr with
    | cs => cases hsr
    | _ => exact parse_modrmForm _ _ he rest
  | lea _ rm | les _ rm | lds _ rm | callFarInd rm | jmpFarInd rm =>
    obtain ⟨he, hm⟩ := Bool.and_eq_true_iff.1 ho
    exact (parse_modrmForm _ _ he rest).trans (parse_memory hm _ rest)
  | pusha | popa | pushImm8 => exact ifPart_parse hp _ _
  | pushImm16 v => exact (ifPart_parse hp _ _).trans (Tail.parse_word _ v rest)
  | ins w | outs w => cases w <;> exact ifPart_parse hp _ _
  | imul3 r rm v =>
    exact (ifPart_parse hp _ _).trans ((parse_modrmForm_append _ r ho _ rest).trans (Tail.parse_word _ v rest))
  | imul3S r rm v => exact (ifPart_parse hp _ _).trans (parse_modrmForm_append _ r ho [v] rest)
  | rolImm w rm n | rorImm w rm n | rclImm w rm n | rcrImm w rm n | shlImm w rm n | shrImm w rm n | sarImm w rm n =>
    cases w <;> exact (ifPart_parse hp _ _).trans (parse_modrmForm_append _ _ ho [n] rest)
  | bsf _ rm | bsr _ rm | bt rm _ | bts rm _ | btr rm _ | btc rm _ | movsx _ rm | movzx _ rm | shldCl rm _ | shrdCl rm _
  | seto rm | setno rm | setb rm | setae rm | sete rm | setne rm | setbe rm | seta rm | sets rm | setns rm | setp rm
  | setnp rm | setl rm | setge rm | setle rm | setg rm =>
    exact (decode_0F hp _ _).trans (parse_modrmForm _ _ ho rest)
  | btImm rm v | btsImm rm v | btrImm rm v | btcImm rm v | shldImm rm _ v | shrdImm rm _ v =>
    exact (decode_0F hp _ _).trans (parse_modrmForm_append _ _ ho [v] rest)
  | esc x1 x2 rm =>
    obtain ⟨he, hfpu⟩ := Bool.and_eq_true_iff.1 ho
    have hesc := escTail_esc ((Bool.not_eq_true' _).mp hfpu)
    cases x1 <;> exact (parse_modrmForm _ _ he rest).trans (congrArg (Tail.parse · rest) hesc)
  | faddP => exact parse_escForm hp (x2 := .b000) (rm := .reg .b001) rfl rfl rest
  | fmulP => exact parse_escForm hp (x2 := .b001) (rm := .reg .b001) rfl rfl rest
  | fsubP => exact parse_escForm hp (x2 := .b101) (rm := .reg .b001) rfl rfl rest
  | fdivP => exact parse_escForm hp (x2 := .b111) (rm := .reg .b001) rfl rfl rest
  | faddStSti n | faddStiSt n | fmulStSti n | fmulStiSt n | fsubStSti n | fsubStiSt n | fdivStSti n | fdivStiSt n
  | fldSti n | fstSti n | fstpSti n => exact parse_escForm hp (rm := .reg n) rfl rfl rest
  | faddM32 rm | faddM64 rm | fmulM32 rm | fmulM64 rm | fsubM32 rm | fsubM64 rm | fdivM32 rm | fdivM64 rm | fiaddM16 rm
  | fiaddM32 rm | fimulM16 rm | fimulM32 rm | fisubM16 rm | fisubM32 rm | fidivM16 rm | fidivM32 rm | fildM16 rm
  | fildM32 rm | fildM64 rm | fistM16 rm | fistM32 rm | fistpM16 rm | fistpM32 rm | fistpM64 rm | fldM32 rm | fldM64 rm
  | fldM80 rm | fstM32 rm | fstM64 rm | fstpM32 rm | fstpM64 rm | fstpM80 rm | fbld rm | fbstp rm =>
    obtain ⟨he, hm⟩ := Bool.and_eq_true_iff.1 ho
    exact parse_escForm hp he (by cases rm with | reg => cases hm | _ => rfl) rest

end Sys2Proof
end


section
/-! SUPPORT. The encoder on what the decoder reads: the fields of a byte put together again, and the operand bytes. -/

namespace Sys2Proof

/-! ## Fields of a byte -/

theorem Bits3.bits_ofBits : ∀ v : BitVec 3, (Bits3.ofBits v).bits = v := by decide

theorem EaBase.field_ofField (f : Bits3) : (EaBase.ofField f).field = f := by cases f <;> rfl

theorem widthBit_bit (b : Byte) (k : Nat) : (widthBit b k).bit = b.extractLsb' k 1 := by
  apply BitVec.eq_of_getLsbD_eq
  intro i hi
  obtain rfl : i = 0 := by omega
  cases h : b.getLsbD k <;> simp [widthBit, h, Width.bit]

theorem dirBit_bit (b : Byte) : (dirBit b).bit = b.extractLsb' 1 1 := by
  rw [← widthBit_bit, dirBit, widthBit]
  split <;> rfl

theorem countBit_bit (b : Byte) : (countBit b).bit = b.extractLsb' 1 1 := by
  rw [← widthBit_bit, countBit, widthBit]
  split <;> rfl

theorem lowField_bits (b : Byte) : (lowField b).bits = b.extractLsb' 0 3 := Bits3.bits_ofBits _

theorem midField_bits (b : Byte) : (midField b).bits = b.extractLsb' 3 3 := Bits3.bits_ofBits _

/-- A byte is its bits from k up and its k low bits. -/
theorem high_or_low (b : Byte) (k : Nat) :
    (b &&& BitVec.allOnes 8 <<< k) ||| (b.extractLsb' 0 k).setWidth 8 = b := by
  apply BitVec.eq_of_getLsbD_eq
  intro i hi
  by_cases h : i < k
  · simp [h, hi]
  · have hones : (BitVec.allOnes 8).getLsbD (i - k) = true := by
      rw [BitVec.getLsbD_allOnes, decide_eq_true_eq]; omega
    rw [BitVec.getLsbD_or, BitVec.getLsbD_and, BitVec.getLsbD_shiftLeft, hones]
    simp [h, hi]

/-- Neighbouring fields at the low end of a byte are one field. -/
theorem extractLsb'_low (b : Byte) (m n : Nat) :
    b.extractLsb' n m ++ b.extractLsb' 0 n = b.extractLsb' 0 (m + n) :=
  BitVec.extractLsb'_append_extractLsb'_eq_extractLsb' (Nat.zero_add n).symm

/-- The three fields of a MOD REG R/M byte (R112) put together again. -/
theorem extractLsb'_fields (b : Byte) : b.extractLsb' 6 2 ++ b.extractLsb' 3 3 ++ b.extractLsb' 0 3 = b := by
  have hhigh : b.extractLsb' 6 2 ++ b.extractLsb' 3 3 = b.extractLsb' 3 (2 + 3) :=
    BitVec.extractLsb'_append_extractLsb'_eq_extractLsb' rfl
  rw [hhigh, extractLsb'_low, BitVec.extractLsb'_eq_self]

/-- An opcode byte that matches a row outside its fields is the encoder's byte for the fields read from it: here for a
row with the W bit in bit 0, below for the other layouts. -/
theorem opW_of_mask {b m : Byte} (h : b &&& 0xFE = m) : opW m (widthBit b 0) = b := by
  rw [opW, widthBit_bit, ← h]
  exact high_or_low b 1

theorem opDW_of_mask {b m : Byte} (h : b &&& 0xFC = m) : opDW m (dirBit b) (widthBit b 0) = b := by
  rw [opDW, dirBit_bit, widthBit_bit, extractLsb'_low, ← h]
  exact high_or_low b 2

theorem opVW_of_mask {b m : Byte} (h : b &&& 0xFC = m) : opVW m (countBit b) (widthBit b 0) = b := by
  rw [opVW, countBit_bit, widthBit_bit, extractLsb'_low, ← h]
  exact high_or_low b 2

theorem opReg_of_mask {b m : Byte} (h : b &&& 0xF8 = m) : opReg m (lowField b) = b := by
  rw [opReg, lowField_bits, ← h]
  exact high_or_low b 3

theorem opW8_of_mask {b m : Byte} (h : b &&& 0xF0 = m) : opW8 m (widthBit b 3) (lowField b) = b := by
  rw [opW8, widthBit_bit, lowField_bits, extractLsb'_low, ← h]
  exact high_or_low b 4

theorem or_cond_of_mask {b m : Byte} (h : b &&& 0xF0 = m) : m ||| (b.extractLsb' 0 4).setWidth 8 = b := by
  rw [← h]
  exact high_or_low b 4

theorem modrmByte_fields (b : Byte) : modrmByte (b.extractLsb' 6 2) (midField b) (lowField b) = b := by
  rw [modrmByte, midField_bits, lowField_bits, extractLsb'_fields]

/-! ## The operand bytes -/

theorem wordBytes_joinBytes (hi lo : Byte) : wordBytes (joinBytes hi lo) = [lo, hi] := by
  rw [wordBytes, Machine.lowByte_joinBytes, Machine.highByte_joinBytes]

/-- What the decoder reads after a MOD REG R/M byte makes with that byte the encoding of the operand. -/
theorem parseRm_some {m : BitVec 2} {f : Bits3} {bs rest : List Byte} {rm : Rm} (r : Bits3)
    (h : parseRm m f bs = some (rm, rest)) :
    rm.encodable = true ∧ modrmByte m r f :: bs = modrm r rm ++ rest := by
  obtain ⟨⟨m, hm⟩⟩ := m
  interval_cases m
  -- MOD = 00: the direct address, or no displacement
  · by_cases hf : f = .b110
    · subst hf
      match bs, h with
      | lo :: hi :: bs, rfl => exact ⟨rfl, by rw [modrm, wordBytes_joinBytes]; rfl⟩
    · cases f
      case b110 => exact absurd rfl hf
      all_goals cases h; exact ⟨rfl, rfl⟩
  -- MOD = 01: an 8-bit displacement
  · match bs, h with
    | d :: bs, rfl => exact ⟨rfl, by rw [modrm, EaBase.field_ofField]; rfl⟩
  -- MOD = 10: a 16-bit displacement
  · match bs, h with
    | lo :: hi :: bs, rfl => exact ⟨rfl, by rw [modrm, wordBytes_joinBytes, EaBase.field_ofField]; rfl⟩
  -- MOD = 11: a register
  · cases h
    exact ⟨rfl, rfl⟩

/-- What the decoder reads as a MOD REG R/M byte with its displacement is the encoding of the operand. -/
theorem parseModRM_some {bs rest : List Byte} {r : Bits3} {rm : Rm} (h : parseModRM bs = some (r, rm, rest)) :
    rm.encodable = true ∧ bs = modrm r rm ++ rest := by
  cases bs with
  | nil => cases h
  | cons b bs =>
    obtain ⟨⟨rm', rest'⟩, hrm, heq⟩ := Option.map_eq_some_iff.1 h
    cases heq
    have hop := parseRm_some (midField b) hrm
    rwa [modrmByte_fields] at hop

end Sys2Proof
end


section
/-! SUPPORT. What the decoder gives is well-formed, and the bytes it takes are its encoding: tails and forms, the
groups, then the opcode map row by row. -/

namespace Sys2Proof

/-! ## Soundness of a form -/

/-- The configured machine has the instruction, with these operands, and these bytes are its encoding. -/
structure Encodes (c : Config) (i : Instr) (bs : List Byte) : Prop where
  decoded : c.decodes i.part = true
  operands : i.operandsOk c = true
  bytes : encode i = bs

/-- Whatever the tail reads after the bytes `pre` completes them to the encoding of what it gives. -/
def Tail.Sound (c : Config) (pre : List Byte) (t : Tail) : Prop :=
  ∀ bs i rest, t.parse bs = .ok (i, rest) → ∃ ops, Encodes c i (pre ++ ops) ∧ bs = ops ++ rest

/-- Whatever the form reads after the opcode bytes `pre` completes them to the encoding of what it gives. -/
def Form.Sound (c : Config) (pre : List Byte) (f : Form) : Prop :=
  ∀ bs i rest, f.parse bs = .ok (i, rest) → ∃ ops, Encodes c i (pre ++ ops) ∧ bs = ops ++ rest

section
variable {c : Config} {pre : List Byte}

theorem Tail.Sound.done {i : Instr} (h : Encodes c i pre) : (Tail.done i).Sound c pre := by
  rintro bs _ _ ⟨⟩
  exact ⟨[], by rwa [List.append_nil], rfl⟩

theorem Tail.Sound.bad (e : DecodeError) : (Tail.bad e).Sound c pre := by
  rintro bs _ _ ⟨⟩

theorem Tail.Sound.byte {k : Byte → Instr} (h : ∀ v, Encodes c (k v) (pre ++ [v])) :
    (Tail.byte k).Sound c pre
  | [], _, _, hp => nomatch hp
  | v :: _, _, _, rfl => ⟨[v], h v, rfl⟩

theorem Tail.Sound.word {k : Word → Instr} (h : ∀ v, Encodes c (k v) (pre ++ wordBytes v)) :
    (Tail.word k).Sound c pre
  | [], _, _, hp | [_], _, _, hp => nomatch hp
  | lo :: hi :: _, _, _, rfl => ⟨_, h (joinBytes hi lo), by rw [wordBytes_joinBytes]; rfl⟩

theorem Tail.Sound.far {k : Word → Word → Instr}
    (h : ∀ off sg, Encodes c (k off sg) (pre ++ (wordBytes off ++ wordBytes sg))) : (Tail.far k).Sound c pre
  | [], _, _, hp | [_], _, _, hp | [_, _], _, _, hp | [_, _, _], _, _, hp => nomatch hp
  | ol :: oh :: sl :: sh :: _, _, _, rfl =>
    ⟨_, h (joinBytes oh ol) (joinBytes sh sl), by rw [wordBytes_joinBytes, wordBytes_joinBytes]; rfl⟩

theorem Tail.Sound.imm {w : Width} {k : BitVec w.bits → Instr}
    (h : ∀ v, Encodes c (k v) (pre ++ immBytes w v)) : (Tail.imm w k).Sound c pre := by
  cases w with
  | byte => exact .byte h
  | word => exact .word h

theorem Tail.Sound.memory {rm : Rm} {t : Tail} (h : rm.inMemory = true → t.Sound c pre) :
    (Tail.memory rm t).Sound c pre := by
  unfold Tail.memory
  split
  next hm => exact h hm
  next => exact .bad _

theorem Form.Sound.plain {t : Tail} (h : t.Sound c pre) : (Form.plain t).Sound c pre := h

theorem Form.Sound.op {i : Instr} (h : Encodes c i pre) : (Form.op i).Sound c pre := .plain (.done h)

theorem Form.Sound.modrm {k : Bits3 → Rm → Tail}
    (h : ∀ r rm, rm.encodable = true → (k r rm).Sound c (pre ++ Sys2Proof.modrm r rm)) :
    (Form.modrm k).Sound c pre := by
  intro bs i rest hp
  rw [Form.parse] at hp
  split at hp
  next r rm bs' hrm =>
    obtain ⟨he, rfl⟩ := parseModRM_some hrm
    obtain ⟨ops, henc, rfl⟩ := h r rm he _ _ _ hp
    exact ⟨_, by rwa [List.append_assoc] at henc, (List.append_assoc _ _ _).symm⟩
  next => cases hp

theorem Form.Sound.ext {k : Rm → Bits3 → Tail}
    (h : ∀ rm x, rm.encodable = true → (k rm x).Sound c (pre ++ Sys2Proof.modrm x rm)) :
    (Form.ext k).Sound c pre := .modrm fun x rm => h rm x

theorem Form.Sound.noRow : Form.noRow.Sound c pre := .plain (.bad _)

theorem Form.Sound.ifPart {p : IsaPart} {f : Form} (h : c.decodes p = true → f.Sound c pre) :
    (Form.ifPart c p f).Sound c pre := by
  unfold Form.ifPart
  split
  next hp => exact h hp
  next => exact .plain (.bad _)

/-- A row of the opcode map, and the rows after it where it does not match. -/
theorem Form.Sound.rowElse {p : Prop} [Decidable p] {f g : Form} (hf : p → f.Sound c pre)
    (hg : ¬p → g.Sound c pre) : (if p then f else g).Sound c pre := by
  split
  next hp => exact hf hp
  next hp => exact hg hp

theorem Form.Sound.row {p : Prop} [Decidable p] {f g : Form} (hf : p → f.Sound c pre) (hg : g.Sound c pre) :
    (if p then f else g).Sound c pre := .rowElse hf fun _ => hg

theorem Form.Sound.at {f : Form} {b b' : Byte} (hb : b' = b) (h : f.Sound c [b']) : f.Sound c [b] := hb ▸ h

theorem Form.Sound.one {i : Instr} {b m : Byte} (he : Encodes c i [m]) (h : b = m) : (Form.op i).Sound c [b] :=
  .at h.symm (.op he)

theorem Form.Sound.atSecond {f : Form} {b b' : Byte} (hb : b' = b) (h : f.Sound c [0x0F, b']) :
    f.Sound c [0x0F, b] := hb ▸ h

/-! ## The groups -/

theorem immGroup_sound (w : Width) (rm : Rm) (x : Bits3) (h : rm.encodable = true) :
    (immGroup w rm x).Sound c ([opW 0x80 w] ++ modrm x rm) := by
  cases x <;> exact .imm fun _ => ⟨rfl, h, rfl⟩

theorem immGroupS_sound (rm : Rm) (x : Bits3) (h : rm.encodable = true) :
    (immGroupS rm x).Sound c ([0x83] ++ modrm x rm) := by
  cases x with
  | b001 | b100 | b110 => exact .bad _
  | _ => exact .byte fun _ => ⟨rfl, h, rfl⟩

theorem shiftGroup_sound (v : ShiftCount) (w : Width) (rm : Rm) (x : Bits3) (h : rm.encodable = true) :
    (shiftGroup v w rm x).Sound c ([opVW 0xD0 v w] ++ modrm x rm) := by
  cases x with
  | b110 => exact .bad _
  | _ => exact .done ⟨rfl, h, rfl⟩

theorem shiftImmGroup_sound (hp : c.decodes .ext80286 = true) (w : Width) (rm : Rm) (x : Bits3)
    (h : rm.encodable = true) : (shiftImmGroup w rm x).Sound c ([opW 0xC0 w] ++ modrm x rm) := by
  cases x with
  | b110 => exact .bad _
  | _ => exact .byte fun _ => ⟨hp, h, rfl⟩

theorem unaryGroup_sound (w : Width) (rm : Rm) (x : Bits3) (h : rm.encodable = true) :
    (unaryGroup w rm x).Sound c ([opW 0xF6 w] ++ modrm x rm) := by
  cases x with
  | b000 => exact .imm fun _ => ⟨rfl, h, rfl⟩
  | b001 => exact .bad _
  | _ => exact .done ⟨rfl, h, rfl⟩

theorem incGroupByte_sound (rm : Rm) (x : Bits3) (h : rm.encodable = true) :
    (incGroupByte rm x).Sound c ([0xFE] ++ modrm x rm) := by
  cases x with
  | b000 | b001 => exact .done ⟨rfl, h, rfl⟩
  | _ => exact .bad _

theorem incGroupWord_sound (rm : Rm) (x : Bits3) (h : rm.encodable = true) :
    (incGroupWord rm x).Sound c ([0xFF] ++ modrm x rm) := by
  cases x with
  | b011 | b101 => exact .memory fun hm => .done ⟨rfl, Bool.and_eq_true_iff.2 ⟨h, hm⟩, rfl⟩
  | b111 => exact .bad _
  | _ => exact .done ⟨rfl, h, rfl⟩

theorem bitGroup_sound (hp : c.decodes .ext80386 = true) (rm : Rm) (x : Bits3) (h : rm.encodable = true) :
    (bitGroup rm x).Sound c ([0x0F, 0xBA] ++ modrm x rm) := by
  cases x with
  | b100 | b101 | b110 | b111 => exact .byte fun _ => ⟨hp, h, rfl⟩
  | _ => exact .bad _

theorem Form.Sound.ext0 {t : Rm → Tail}
    (h : ∀ rm, rm.encodable = true → (t rm).Sound c (pre ++ Sys2Proof.modrm .b000 rm)) :
    (Form.ext fun rm => onlyExt0 (t rm)).Sound c pre := by
  refine .ext fun rm x he => ?_
  cases x with
  | b000 => exact h rm he
  | _ => exact .bad _

theorem fromSegment_sound (rm : Rm) (x : Bits3) (h : rm.encodable = true) :
    (fromSegment rm x).Sound c ([0x8C] ++ modrm x rm) := by
  cases x with
  | b000 | b001 | b010 | b011 => exact .done ⟨rfl, h, rfl⟩
  | _ => exact .bad _

theorem toSegment_sound (rm : Rm) (x : Bits3) (h : rm.encodable = true) :
    (toSegment rm x).Sound c ([0x8E] ++ modrm x rm) := by
  cases x with
  | b000 | b010 | b011 => exact .done ⟨rfl, h, rfl⟩
  | _ => exact .bad _

/-! ## XCHG with the accumulator -/

/-- Where the byte is not that of NOP, the register of the exchange is not AX (R151). -/
theorem encodes_xchgAcc {b : Byte} (hb : b ≠ 0x90) (h : b &&& 0xF8 = 0x90) :
    Encodes c (.xchgAcc (lowField b)) [b] := by
  have hbits := opReg_of_mask h
  refine ⟨rfl, decide_eq_true fun hax => hb ?_, congrArg ([·]) hbits⟩
  rw [← hbits, hax]
  rfl

/-! ## The conditions -/

/-- J(condition) by the number of its condition (R143). -/
theorem encodes_jcc (x : BitVec 4) (disp : Byte) : Encodes c (jcc x disp) [0x70 ||| x.setWidth 8, disp] := by
  obtain ⟨n, hn, rfl⟩ : ∃ n < 16, x = BitVec.ofNat 4 n := ⟨x.toNat, x.isLt, by simp⟩
  interval_cases n <;> exact ⟨rfl, rfl, rfl⟩

/-- SET(condition) by the number of its condition (R143, R480). -/
theorem encodes_setcc (hp : c.decodes .ext80386 = true) (x : BitVec 4) {rm : Rm} (h : rm.encodable = true) :
    Encodes c (setcc x rm) (0x0F :: (0x90 ||| x.setWidth 8) :: modrm .b000 rm) := by
  obtain ⟨n, hn, rfl⟩ : ∃ n < 16, x = BitVec.ofNat 4 n := ⟨x.toNat, x.isLt, by simp⟩
  interval_cases n <;> exact ⟨hp, h, rfl⟩

/-! ## The 8087 rows -/

/-- Each row of R424, by the bits x1 of the first byte and the REG field of the second. -/
theorem encodes_fpuInstr {x1 x2 : Bits3} {rm : Rm} {i : Instr} (h8 : c.has8087 = true)
    (h : rm.encodable = true) (hi : fpuInstr x1 x2 rm = some i) :
    Encodes c i (opReg 0xD8 x1 :: modrm x2 rm) := by
  cases rm with
  | reg n => cases x1 <;> cases x2 <;> cases n <;> cases hi <;> exact ⟨h8, rfl, rfl⟩
  | _ =>
    cases x1 <;> cases x2 <;> cases hi <;> exact ⟨h8, Bool.and_eq_true_iff.2 ⟨h, rfl⟩, rfl⟩

theorem escTail_sound (x1 x2 : Bits3) (rm : Rm) (h : rm.encodable = true) :
    (escTail c x1 x2 rm).Sound c ([opReg 0xD8 x1] ++ modrm x2 rm) := by
  unfold escTail
  split
  next h8 =>
    cases hi : fpuInstr x1 x2 rm with
    | none => exact .done ⟨rfl, by simp [Instr.operandsOk, h, hi], rfl⟩
    | some i => exact .done (encodes_fpuInstr h8 h hi)
  next h8 => exact .done ⟨rfl, by simp [Instr.operandsOk, h, h8], rfl⟩

/-! ## The opcode map -/

/-- The rows of `opcodes0`, in its order: which bits of the first byte are fields, what follows it, and that these
bytes are what the encoder gives. -/
theorem opcodes0_sound (b : Byte) : (opcodes0 b).Sound c [b] :=
  .row (fun h => .at (opDW_of_mask h) (.modrm fun _ _ he => .done ⟨rfl, he, rfl⟩)) <|
  .row (fun h => .at (opW_of_mask h) (.plain (.imm fun _ => ⟨rfl, rfl, rfl⟩))) <|
  .row (.one ⟨rfl, rfl, rfl⟩) <| .row (.one ⟨rfl, rfl, rfl⟩) <|
  .row (fun h => .at (opDW_of_mask h) (.modrm fun _ _ he => .done ⟨rfl, he, rfl⟩)) <|
  .row (fun h => .at (opW_of_mask h) (.plain (.imm fun _ => ⟨rfl, rfl, rfl⟩))) <|
  .row (.one ⟨rfl, rfl, rfl⟩) <|
  .row (fun h => .at (opDW_of_mask h) (.modrm fun _ _ he => .done ⟨rfl, he, rfl⟩)) <|
  .row (fun h => .at (opW_of_mask h) (.plain (.imm fun _ => ⟨rfl, rfl, rfl⟩))) <|
  .row (.one ⟨rfl, rfl, rfl⟩) <| .row (.one ⟨rfl, rfl, rfl⟩) <|
  .row (fun h => .at (opDW_of_mask h) (.modrm fun _ _ he => .done ⟨rfl, he, rfl⟩)) <|
  .row (fun h => .at (opW_of_mask h) (.plain (.imm fun _ => ⟨rfl, rfl, rfl⟩))) <|
  .row (.one ⟨rfl, rfl, rfl⟩) <| .row (.one ⟨rfl, rfl, rfl⟩) <|
  .row (fun h => .at (opDW_of_mask h) (.modrm fun _ _ he => .done ⟨rfl, he, rfl⟩)) <|
  .row (fun h => .at (opW_of_mask h) (.plain (.imm fun _ => ⟨rfl, rfl, rfl⟩))) <|
  .row (.one ⟨rfl, rfl, rfl⟩) <| .row (.one ⟨rfl, rfl, rfl⟩) <|
  .row (fun h => .at (opDW_of_mask h) (.modrm fun _ _ he => .done ⟨rfl, he, rfl⟩)) <|
  .row (fun h => .at (opW_of_mask h) (.plain (.imm fun _ => ⟨rfl, rfl, rfl⟩))) <|
  .row (.one ⟨rfl, rfl, rfl⟩) <| .row (.one ⟨rfl, rfl, rfl⟩) <|
  .row (fun h => .at (opDW_of_mask h) (.modrm fun _ _ he => .done ⟨rfl, he, rfl⟩)) <|
  .row (fun h => .at (opW_of_mask h) (.plain (.imm fun _ => ⟨rfl, rfl, rfl⟩))) <|
  .row (.one ⟨rfl, rfl, rfl⟩) <| .row (.one ⟨rfl, rfl, rfl⟩) <|
  .row (fun h => .at (opDW_of_mask h) (.modrm fun _ _ he => .done ⟨rfl, he, rfl⟩)) <|
  .row (fun h => .at (opW_of_mask h) (.plain (.imm fun _ => ⟨rfl, rfl, rfl⟩))) <|
  .row (.one ⟨rfl, rfl, rfl⟩) <| .row (.one ⟨rfl, rfl, rfl⟩) <|
  .noRow

/-- The rows of `opcodes1`, in its order. -/
theorem opcodes1_sound (b : Byte) : (opcodes1 c b).Sound c [b] :=
  .row (fun h => .at (opReg_of_mask h) (.op ⟨rfl, rfl, rfl⟩)) <|
  .row (fun h => .at (opReg_of_mask h) (.op ⟨rfl, rfl, rfl⟩)) <|
  .row (fun h => .at (opReg_of_mask h) (.op ⟨rfl, rfl, rfl⟩)) <|
  .row (fun h => .at (opReg_of_mask h) (.op ⟨rfl, rfl, rfl⟩)) <|
  .row (fun h => .at h.symm (.ifPart fun hp => .op ⟨hp, rfl, rfl⟩)) <|
  .row (fun h => .at h.symm (.ifPart fun hp => .op ⟨hp, rfl, rfl⟩)) <|
  .row (fun h => .at h.symm (.ifPart fun hp => .plain (.word fun _ => ⟨hp, rfl, rfl⟩))) <|
  .row (fun h => .at h.symm (.ifPart fun hp => .modrm fun _ _ he => .word fun _ => ⟨hp, he, rfl⟩)) <|
  .row (fun h => .at h.symm (.ifPart fun hp => .plain (.byte fun _ => ⟨hp, rfl, rfl⟩))) <|
  .row (fun h => .at h.symm (.ifPart fun hp => .modrm fun _ _ he => .byte fun _ => ⟨hp, he, rfl⟩)) <|
  .row (fun h => .at (opW_of_mask h) (.ifPart fun hp => .op ⟨hp, rfl, rfl⟩)) <|
  .row (fun h => .at (opW_of_mask h) (.ifPart fun hp => .op ⟨hp, rfl, rfl⟩)) <|
  .row (fun h => .at (or_cond_of_mask h) (.plain (.byte (encodes_jcc _)))) <|
  .noRow

/-- The rows of `opcodes2`, in its order. -/
theorem opcodes2_sound (b : Byte) : (opcodes2 b).Sound c [b] :=
  .row (fun h => .at (opW_of_mask h) (.ext (immGroup_sound _))) <|
  .row (fun h => .at h.symm (.ext immGroupS_sound)) <|
  .row (fun h => .at (opW_of_mask h) (.modrm fun _ _ he => .done ⟨rfl, he, rfl⟩)) <|
  .row (fun h => .at (opW_of_mask h) (.modrm fun _ _ he => .done ⟨rfl, he, rfl⟩)) <|
  .row (fun h => .at (opDW_of_mask h) (.modrm fun _ _ he => .done ⟨rfl, he, rfl⟩)) <|
  .row (fun h => .at h.symm (.ext fromSegment_sound)) <|
  .row (fun h => .at h.symm (.modrm fun _ _ he => .memory fun hm =>
    .done ⟨rfl, Bool.and_eq_true_iff.2 ⟨he, hm⟩, rfl⟩)) <|
  .row (fun h => .at h.symm (.ext toSegment_sound)) <|
  .row (fun h => .at h.symm (.ext0 fun _ he => .done ⟨rfl, he, rfl⟩)) <|
  .rowElse (.one ⟨rfl, rfl, rfl⟩) fun hnop =>
  .row (fun h => .op (encodes_xchgAcc hnop h)) <|
  .row (.one ⟨rfl, rfl, rfl⟩) <| .row (.one ⟨rfl, rfl, rfl⟩) <|
  .row (fun h => .at h.symm (.plain (.far fun _ _ => ⟨rfl, rfl, rfl⟩))) <|
  .row (.one ⟨rfl, rfl, rfl⟩) <| .row (.one ⟨rfl, rfl, rfl⟩) <| .row (.one ⟨rfl, rfl, rfl⟩) <|
  .row (.one ⟨rfl, rfl, rfl⟩) <| .row (.one ⟨rfl, rfl, rfl⟩) <|
  .row (fun h => .at (opW_of_mask h) (.plain (.word fun _ => ⟨rfl, rfl, rfl⟩))) <|
  .row (fun h => .at (opW_of_mask h) (.plain (.word fun _ => ⟨rfl, rfl, rfl⟩))) <|
  .row (fun h => .at (opW_of_mask h) (.op ⟨rfl, rfl, rfl⟩)) <|
  .row (fun h => .at (opW_of_mask h) (.op ⟨rfl, rfl, rfl⟩)) <|
  .row (fun h => .at (opW_of_mask h) (.plain (.imm fun _ => ⟨rfl, rfl, rfl⟩))) <|
  .row (fun h => .at (opW_of_mask h) (.op ⟨rfl, rfl, rfl⟩)) <|
  .row (fun h => .at (opW_of_mask h) (.op ⟨rfl, rfl, rfl⟩)) <|
  .row (fun h => .at (opW_of_mask h) (.op ⟨rfl, rfl, rfl⟩)) <|
  .row (fun h => .at (opW8_of_mask h) (.plain (.imm fun _ => ⟨rfl, rfl, rfl⟩))) <|
  .noRow

/-- The rows of `opcodes3`, in its order. -/
theorem opcodes3_sound (b : Byte) : (opcodes3 c b).Sound c [b] :=
  .row (fun h => .at (opW_of_mask h) (.ifPart fun hp => .ext (shiftImmGroup_sound hp _))) <|
  .row (fun h => .at h.symm (.plain (.word fun _ => ⟨rfl, rfl, rfl⟩))) <|
  .row (.one ⟨rfl, rfl, rfl⟩) <|
  .row (fun h => .at h.symm (.modrm fun _ _ he => .memory fun hm =>
    .done ⟨rfl, Bool.and_eq_true_iff.2 ⟨he, hm⟩, rfl⟩)) <|
  .row (fun h => .at h.symm (.modrm fun _ _ he => .memory fun hm =>
    .done ⟨rfl, Bool.and_eq_true_iff.2 ⟨he, hm⟩, rfl⟩)) <|
  .row (fun h => .at (opW_of_mask h) (.ext0 fun _ he => .imm fun _ => ⟨rfl, he, rfl⟩)) <|
  .row (fun h => .at h.symm (.plain (.word fun _ => ⟨rfl, rfl, rfl⟩))) <|
  .row (.one ⟨rfl, rfl, rfl⟩) <| .row (.one ⟨rfl, rfl, rfl⟩) <|
  .row (fun h => .at h.symm (.plain (.byte fun _ => ⟨rfl, rfl, rfl⟩))) <|
  .row (.one ⟨rfl, rfl, rfl⟩) <| .row (.one ⟨rfl, rfl, rfl⟩) <|
  .row (fun h => .at (opVW_of_mask h) (.ext (shiftGroup_sound _ _))) <|
  .row (.one ⟨rfl, rfl, rfl⟩) <|
  .row (fun h => .at (opReg_of_mask h) (.modrm (escTail_sound _))) <|
  .row (fun h => .at h.symm (.plain (.byte fun _ => ⟨rfl, rfl, rfl⟩))) <|
  .row (fun h => .at h.symm (.plain (.byte fun _ => ⟨rfl, rfl, rfl⟩))) <|
  .row (fun h => .at h.symm (.plain (.byte fun _ => ⟨rfl, rfl, rfl⟩))) <|
  .row (fun h => .at h.symm (.plain (.byte fun _ => ⟨rfl, rfl, rfl⟩))) <|
  .row (fun h => .at (opW_of_mask h) (.plain (.byte fun _ => ⟨rfl, rfl, rfl⟩))) <|
  .row (fun h => .at (opW_of_mask h) (.plain (.byte fun _ => ⟨rfl, rfl, rfl⟩))) <|
  .row (fun h => .at h.symm (.plain (.word fun _ => ⟨rfl, rfl, rfl⟩))) <|
  .row (fun h => .at h.symm (.plain (.word fun _ => ⟨rfl, rfl, rfl⟩))) <|
  .row (fun h => .at h.symm (.plain (.far fun _ _ => ⟨rfl, rfl, rfl⟩))) <|
  .row (fun h => .at h.symm (.plain (.byte fun _ => ⟨rfl, rfl, rfl⟩))) <|
  .row (fun h => .at (opW_of_mask h) (.op ⟨rfl, rfl, rfl⟩)) <|
  .row (fun h => .at (opW_of_mask h) (.op ⟨rfl, rfl, rfl⟩)) <|
  .row (.one ⟨rfl, rfl, rfl⟩) <| .row (.one ⟨rfl, rfl, rfl⟩) <| .row (.one ⟨rfl, rfl, rfl⟩) <|
  .row (.one ⟨rfl, rfl, rfl⟩) <| .row (.one ⟨rfl, rfl, rfl⟩) <|
  .row (fun h => .at (opW_of_mask h) (.ext (unaryGroup_sound _))) <|
  .row (.one ⟨rfl, rfl, rfl⟩) <| .row (.one ⟨rfl, rfl, rfl⟩) <| .row (.one ⟨rfl, rfl, rfl⟩) <|
  .row (.one ⟨rfl, rfl, rfl⟩) <| .row (.one ⟨rfl, rfl, rfl⟩) <| .row (.one ⟨rfl, rfl, rfl⟩) <|
  .row (fun h => .at h.symm (.ext incGroupByte_sound)) <|
  .row (fun h => .at h.symm (.ext incGroupWord_sound)) <|
  .noRow

/-- The rows of `opcodes0F`, in its order. -/
theorem opcodes0F_sound (hp : c.decodes .ext80386 = true) (b : Byte) : (opcodes0F b).Sound c [0x0F, b] :=
  .row (fun h => .atSecond (or_cond_of_mask h) (.ext0 fun _ he => .done (encodes_setcc hp _ he))) <|
  .row (fun h => .atSecond h.symm (.modrm fun _ _ he => .done ⟨hp, he, rfl⟩)) <|
  .row (fun h => .atSecond h.symm (.modrm fun _ _ he => .byte fun _ => ⟨hp, he, rfl⟩)) <|
  .row (fun h => .atSecond h.symm (.modrm fun _ _ he => .done ⟨hp, he, rfl⟩)) <|
  .row (fun h => .atSecond h.symm (.modrm fun _ _ he => .done ⟨hp, he, rfl⟩)) <|
  .row (fun h => .atSecond h.symm (.modrm fun _ _ he => .byte fun _ => ⟨hp, he, rfl⟩)) <|
  .row (fun h => .atSecond h.symm (.modrm fun _ _ he => .done ⟨hp, he, rfl⟩)) <|
  .row (fun h => .atSecond h.symm (.modrm fun _ _ he => .done ⟨hp, he, rfl⟩)) <|
  .row (fun h => .atSecond h.symm (.modrm fun _ _ he => .done ⟨hp, he, rfl⟩)) <|
  .row (fun h => .atSecond h.symm (.ext (bitGroup_sound hp))) <|
  .row (fun h => .atSecond h.symm (.modrm fun _ _ he => .done ⟨hp, he, rfl⟩)) <|
  .row (fun h => .atSecond h.symm (.modrm fun _ _ he => .done ⟨hp, he, rfl⟩)) <|
  .row (fun h => .atSecond h.symm (.modrm fun _ _ he => .done ⟨hp, he, rfl⟩)) <|
  .row (fun h => .atSecond h.symm (.modrm fun _ _ he => .done ⟨hp, he, rfl⟩)) <|
  .noRow


theorem opcodes_sound (b : Byte) : (opcodes c b).Sound c [b] := by
  unfold opcodes
  split
  · exact opcodes0_sound b
  · exact opcodes1_sound b
  · exact opcodes2_sound b
  · exact opcodes3_sound b

/-- AAM and AAD are read with their second byte 0Ah only (R265, R266). -/
theorem fixed0A_some {i j : Instr} {bs rest : List Byte} (h : fixed0A i bs = .ok (j, rest)) :
    j = i ∧ bs = 0x0A :: rest := by
  cases bs with
  | nil => cases h
  | cons b bs =>
    rw [fixed0A] at h
    split at h
    next hb => cases h; exact ⟨rfl, by rw [hb]⟩
    next => cases h

theorem decode0F_sound {bs rest : List Byte} {i : Instr} (hp : c.decodes .ext80386 = true)
    (h : decode0F bs = .ok (i, rest)) : ∃ enc, Encodes c i enc ∧ 0x0F :: bs = enc ++ rest := by
  cases bs with
  | nil => cases h
  | cons b bs =>
    obtain ⟨ops, henc, rfl⟩ := opcodes0F_sound hp b _ _ _ h
    exact ⟨_, henc, rfl⟩

/-- The bytes the decoder takes are the encoding of an instruction of the configured machine. -/
theorem decode_some {bs rest : List Byte} {i : Instr} (h : decode c bs = .ok (i, rest)) :
    ∃ enc, Encodes c i enc ∧ bs = enc ++ rest := by
  cases bs with
  | nil => cases h
  | cons b bs =>
    rw [decode] at h
    split at h
    next hb =>
      subst hb
      split at h
      next hp => exact decode0F_sound hp h
      next => cases h
    split at h
    next hb =>
      obtain ⟨rfl, rfl⟩ := fixed0A_some h
      exact ⟨[0xD4, 0x0A], ⟨rfl, rfl, rfl⟩, by rw [hb]; rfl⟩
    split at h
    next hb =>
      obtain ⟨rfl, rfl⟩ := fixed0A_some h
      exact ⟨[0xD5, 0x0A], ⟨rfl, rfl, rfl⟩, by rw [hb]; rfl⟩
    next =>
      obtain ⟨ops, henc, rfl⟩ := opcodes_sound b _ _ _ h
      exact ⟨_, henc, rfl⟩

end

/-- Settles O2: the bytes taken are the encoding of an instruction that the configured machine has. -/
theorem decodeSound : Obligations.DecodeSound := by
  unfold Obligations.DecodeSound
  intro c bs i rest h
  obtain ⟨enc, ⟨hp, ho, rfl⟩, hbs⟩ := decode_some h
  exact ⟨Instr.wellFormed_iff.2 ⟨hp, ho⟩, hbs⟩

end Sys2Proof
end


section
/-! SUPPORT. The bytes that the decoder refuses (R150). -/

namespace Sys2Proof

/-! ## The fields as numbers -/

theorem midField_toNat (m : Byte) : (midField m).bits.toNat = m.toNat / 8 % 8 := by
  rw [midField_bits, BitVec.extractLsb'_toNat, Nat.shiftRight_eq_div_pow]

theorem midField_eq {m : Byte} {n : Nat} (h : m.toNat / 8 % 8 = n) : midField m = .ofBits (BitVec.ofNat 3 n) := by
  rw [← Bits3.ofBits_bits (midField m), ← h, ← midField_toNat, BitVec.ofNat_toNat, BitVec.setWidth_eq]

theorem midField_ne_zero {m : Byte} (h : m.toNat / 8 % 8 ≠ 0) : midField m ≠ .b000 := by
  intro hm
  rw [← midField_toNat, hm] at h
  exact h rfl

/-- The high half of the SET(condition) bytes. -/
theorem mask_F0_iff : ∀ m : Byte, m &&& 0xF0 = 0x90 ↔ m.toNat / 16 = 9 := by decide

/-! ## What is refused -/

/-- The operand read has the REG field of the byte, and is a register where MOD = 11 (R112, R117). -/
theorem parseModRM_cons_some {m : Byte} {bs rest : List Byte} {r : Bits3} {rm : Rm}
    (h : parseModRM (m :: bs) = some (r, rm, rest)) :
    r = midField m ∧ (0xC0 ≤ m.toNat → rm.inMemory = false) := by
  obtain ⟨⟨rm', rest'⟩, hrm, heq⟩ := Option.map_eq_some_iff.1 h
  cases heq
  refine ⟨rfl, fun hm => ?_⟩
  have hmod : m.extractLsb' 6 2 = 3 := by
    apply BitVec.eq_of_toNat_eq
    have := m.isLt
    rw [BitVec.extractLsb'_toNat, Nat.shiftRight_eq_div_pow, show (3 : BitVec 2).toNat = 3 from rfl]
    omega
  rw [hmod] at hrm
  cases hrm
  rfl

/-- The tail that a form has for the REG field `x` and the operand. -/
def Form.tail (f : Form) (x : Bits3) (rm : Rm) : Tail :=
  match f with
  | .plain t => t
  | .modrm k => k x rm

/-- A form refuses a MOD REG R/M byte whose tail is refused with every operand that the byte may name;
the bytes may also end inside the operand. -/
theorem Form.parse_refused {f : Form} {m : Byte}
    (h : ∀ rm, (0xC0 ≤ m.toNat → rm.inMemory = false) → ∃ e, f.tail (midField m) rm = .bad e) (bs : List Byte) :
    ∃ e, f.parse (m :: bs) = .error e := by
  cases f with
  | plain t =>
    obtain ⟨e, rfl⟩ := h (.reg .b000) fun _ => rfl
    exact ⟨e, rfl⟩
  | modrm k =>
    rw [Form.parse]
    split
    next r rm bs' hrm =>
      obtain ⟨rfl, hreg⟩ := parseModRM_cons_some hrm
      obtain ⟨e, hbad⟩ := h rm hreg
      rw [show k (midField m) rm = .bad e from hbad]
      exact ⟨e, rfl⟩
    next => exact ⟨_, rfl⟩

/-- An extension in the REG field that is refused with every operand (R150 items 2 to 4). -/
theorem decode_extension_refused {c : Config} {b m : Byte} {n : Nat}
    (hdec : ∀ bs, decode c (b :: bs) = (opcodes c b).parse bs)
    (hbad : ∀ rm, ∃ e, (opcodes c b).tail (.ofBits (BitVec.ofNat 3 n)) rm = .bad e) {bs : List Byte}
    (hm : m.toNat / 8 % 8 = n) : ∃ e, decode c (b :: m :: bs) = .error e := by
  rw [hdec]
  exact Form.parse_refused (fun rm _ => midField_eq hm ▸ hbad rm) bs

/-- A first byte whose tail is refused with a register operand (R150 item 6). -/
theorem decode_register_refused {c : Config} {b m : Byte}
    (hdec : ∀ bs, decode c (b :: bs) = (opcodes c b).parse bs)
    (hbad : ∀ rm, rm.inMemory = false → ∃ e, (opcodes c b).tail (midField m) rm = .bad e) (hm : 0xC0 ≤ m.toNat)
    (bs : List Byte) : ∃ e, decode c (b :: m :: bs) = .error e := by
  rw [hdec]
  exact Form.parse_refused (fun rm hreg => hbad rm (hreg hm)) bs

theorem Tail.memory_register {rm : Rm} (h : rm.inMemory = false) (t : Tail) :
    ∃ e, Tail.memory rm t = .bad e := ⟨_, if_neg (by rw [h]; decide)⟩

theorem decode_0F_refused {c : Config} {bs : List Byte}
    (h : c.decodes .ext80386 = true → ∃ e, decode0F bs = .error e) : ∃ e, decode c (0x0F :: bs) = .error e := by
  rw [decode, if_pos rfl]
  split
  next hp => exact h hp
  next => exact ⟨_, rfl⟩

theorem decode_0F_not80386 {c : Config} (h : c.level ≠ .l80386) (bs : List Byte) :
    ∃ e, decode c (0x0F :: bs) = .error e :=
  decode_0F_refused fun hp => absurd (of_decide_eq_true hp) h

theorem ifPart_8086 {c : Config} (h : c.level = .l8086) (f : Form) (bs : List Byte) :
    ∃ e, (Form.ifPart c .ext80286 f).parse bs = .error e :=
  ⟨.notConfigured, by rw [Form.ifPart, if_neg (by simp [Config.decodes, h])]; rfl⟩

theorem fixed0A_refused {m : Byte} (h : m ≠ 0x0A) (i : Instr) (bs : List Byte) :
    ∃ e, fixed0A i (m :: bs) = .error e := ⟨_, if_neg h⟩

theorem bitGroup_refused {x : Bits3} (h : x.bits.toNat < 4) (rm : Rm) : ∃ e, bitGroup rm x = .bad e := by
  cases x with
  | b000 | b001 | b010 | b011 => exact ⟨_, rfl⟩
  | _ => exact absurd h (by decide)

theorem onlyExt0_refused {x : Bits3} (h : x ≠ .b000) (t : Tail) : ∃ e, onlyExt0 t x = .bad e := by
  cases x with
  | b000 => exact absurd rfl h
  | _ => exact ⟨_, rfl⟩

theorem opcodes0F_noRow {m : Byte} (h9 : m.toNat / 16 ≠ 9)
    (h : m ∉ ([0xA3, 0xA4, 0xA5, 0xAB, 0xAC, 0xAD, 0xB3, 0xB6, 0xBA, 0xBB, 0xBC, 0xBD, 0xBE] : List Byte)) :
    opcodes0F m = .noRow := by
  simp only [List.mem_cons, List.not_mem_nil, or_false, not_or] at h
  rw [Ne, ← mask_F0_iff] at h9
  simp only [opcodes0F, h9, h, if_false]

theorem opcodes0F_setcc {b : Byte} (h : b.toNat / 16 = 9) :
    opcodes0F b = .ext fun rm => onlyExt0 (.done (setcc (b.extractLsb' 0 4) rm)) :=
  if_pos ((mask_F0_iff b).2 h)

/-- Settles O4: each item of R150 is a row that is not there, a tail that is refused, or a part of the instruction set
that the level leaves out. Which extensions of a byte are undefined is seen by evaluation at each level. -/
theorem encodingsRefused : Obligations.EncodingsRefused := by
  unfold Obligations.EncodingsRefused
  intro c m rest
  refine ⟨?undefined, fun h => ?l8086, fun h => decode_0F_not80386 (by simp [h]) _, ?extensions,
    fun h => decode_0F_refused fun _ => ?bits, fun h9 h => decode_0F_refused fun _ => ?second,
    fun b hb h => decode_0F_refused fun _ => ?setcc, (fixed0A_refused · .aam rest),
    (fixed0A_refused · .aad rest), fun hm => ?pointer, fun hm hx => ?farIndirect⟩
  case undefined =>
    simp only [List.forall_mem_cons, List.not_mem_nil, false_implies, implies_true, and_true]
    and_intros <;> exact ⟨_, rfl⟩
  case l8086 =>
    rw [List.forall_mem_cons]
    refine ⟨decode_0F_not80386 (by simp [h]) _, ?_⟩
    simp only [List.forall_mem_cons, List.not_mem_nil, false_implies, implies_true, and_true]
    and_intros <;> exact ifPart_8086 h _ _
  case extensions =>
    obtain ⟨level⟩ := c
    simp only [List.forall_mem_cons, List.not_mem_nil, false_implies, implies_true, and_true]
    cases level <;> and_intros <;> exact decode_extension_refused (fun _ => rfl) fun _ => ⟨_, rfl⟩
  case bits =>
    exact Form.parse_refused (f := .ext bitGroup) (fun rm _ => bitGroup_refused (midField_toNat m ▸ h) rm) rest
  case second =>
    rw [decode0F, opcodes0F_noRow h9 h]
    exact ⟨_, rfl⟩
  case setcc =>
    rw [decode0F, opcodes0F_setcc hb]
    refine Form.parse_refused (fun rm _ => ?_) rest
    exact onlyExt0_refused (midField_ne_zero h) _
  case pointer =>
    simp only [List.forall_mem_cons, List.not_mem_nil, false_implies, implies_true, and_true]
    and_intros <;> refine decode_register_refused (fun _ => rfl) (fun rm hreg => ?_) hm rest <;>
      exact Tail.memory_register hreg _
  case farIndirect =>
    refine decode_register_refused (fun _ => rfl) (fun rm hreg => ?_) hm rest
    rcases hx with hx | hx <;> rw [midField_eq hx] <;> exact Tail.memory_register hreg _

/-! ## Samples -/

/-- Settles O3: the decoder evaluates on these bytes. -/
theorem sampleEncodings : Obligations.SampleEncodings := by
  unfold Obligations.SampleEncodings
  exact ⟨rfl, rfl, rfl, rfl, rfl, rfl, rfl⟩

end Sys2Proof
end


section
/-! SUPPORT. The sixteen conditions, for J(condition) and SET(condition); the places of operands; registers where an
operand must be in memory. -/

namespace Sys2Proof.Machine

/-! ## Offsets as numbers -/

theorem ofNat_toNat_word (v : Word) : v = BitVec.ofNat 16 v.toNat := by
  rw [BitVec.ofNat_toNat, BitVec.setWidth_eq]

theorem add_eq_ofNat (v u : Word) : v + u = BitVec.ofNat 16 (v.toNat + u.toNat) := by
  rw [BitVec.ofNat_add, ← ofNat_toNat_word, ← ofNat_toNat_word]

/-- A sign-extended displacement is added as a number (R118, R351). -/
theorem ofNat_add_sext16 (n : Nat) (d : Byte) : BitVec.ofNat 16 n + sext16 d = BitVec.ofInt 16 (n + d.toInt) := by
  rw [BitVec.ofInt_add, BitVec.ofInt_natCast]
  rfl

/-! ## Conditions -/

/-- The condition of R143 as a formula of the flags. -/
def Cond.Formula (f : Flags) : Cond → Prop
  | .o => f.OF = true
  | .no => f.OF = false
  | .b => f.CF = true
  | .ae => f.CF = false
  | .e => f.ZF = true
  | .ne => f.ZF = false
  | .be => f.CF = true ∨ f.ZF = true
  | .a => f.CF = false ∧ f.ZF = false
  | .s => f.SF = true
  | .ns => f.SF = false
  | .p => f.PF = true
  | .np => f.PF = false
  | .l => f.SF ≠ f.OF
  | .ge => f.SF = f.OF
  | .le => f.SF ≠ f.OF ∨ f.ZF = true
  | .g => f.ZF = false ∧ f.SF = f.OF

theorem Cond.holds_iff (f : Flags) (k : Cond) : k.holds f = true ↔ k.Formula f := by
  cases k <;> simp [Cond.holds, Cond.Formula]

/-- A jump that is taken: IP is the target, and what was fetched ahead is discarded. -/
theorem jumps_jumpIf {i : Instr} {s : State} {d : Byte} {t : Bool} (hi : exec i s = .next (s.jumpIf t d))
    (ht : t = true) : Jumps i s { s.regs with ip := BitVec.ofInt 16 (s.regs.ip.toNat + d.toInt) } s.flags := by
  refine ⟨s.jump (sext16 d), ?_, ?_, fun _ _ => rfl, [], rfl, by simp⟩
  · rw [hi, State.jumpIf, if_pos ht]
  · rw [← ofNat_add_sext16, ← ofNat_toNat_word]; rfl

theorem jumpIf_not_taken {i : Instr} {s : State} {d : Byte} {t : Bool} (hi : exec i s = .next (s.jumpIf t d))
    (ht : t = false) : exec i s = .next s := by
  rw [hi, State.jumpIf, ht]; rfl

/-- J(condition), taken and not taken. -/
theorem jcc_cond {i : Instr} {s : State} {d : Byte} (k : Cond)
    (hi : exec i s = .next (s.jumpIf (k.holds s.flags) d)) :
    (k.Formula s.flags → Jumps i s { s.regs with ip := BitVec.ofInt 16 (s.regs.ip.toNat + d.toInt) } s.flags) ∧
      (¬k.Formula s.flags → exec i s = .next s) := by
  rw [← Cond.holds_iff, Bool.not_eq_true]
  exact ⟨jumps_jumpIf hi, jumpIf_not_taken hi⟩

/-- A write to the R/M operand, with the flags as they were. -/
theorem writes_rmWrite {i : Instr} {s : State} (hs : s.still) (hm : s.memOk = true) {w : Width} {rm : Rm}
    {v : BitVec w.bits} (hi : exec i s = .next (s.rmWrite w rm v)) : Writes i s w (s.place rm) v s.flags := by
  obtain ⟨hframe, hsame, hstale, -⟩ := writePlace_frame hs w (s.place rm) v
  refine ⟨s.rmWrite w rm v, ⟨hi, ?_, hsame, hstale⟩, readPlace_writePlace hs hm w (s.place rm) v⟩
  rw [State.rmWrite, hframe]

/-- SET(condition), where it holds and where not. -/
theorem setcc_cond {i : Instr} {s : State} (hs : s.still) (hm : s.memOk = true) {rm : Rm} (k : Cond)
    (hi : exec i s = .next (s.setByteIf rm (k.holds s.flags))) :
    (k.Formula s.flags → Writes i s .byte (s.place rm) 1#8 s.flags) ∧
      (¬k.Formula s.flags → Writes i s .byte (s.place rm) 0#8 s.flags) := by
  rw [← Cond.holds_iff, Bool.not_eq_true]
  constructor <;> intro hk <;> rw [State.setByteIf, hk] at hi <;> exact writes_rmWrite hs hm hi

/-- Settles O50: each of the sixteen conditions is one formula of the flags, for the jumps and for the sets. -/
theorem conditionalJumpsAndSets : Obligations.ConditionalJumpsAndSets := by
  unfold Obligations.ConditionalJumpsAndSets
  intro s b rm
  refine ⟨?jumps, fun hs hm => ?sets⟩
  case jumps =>
    simp only [jccTable, List.forall_mem_cons, List.not_mem_nil, false_implies, implies_true, and_true]
    exact ⟨jcc_cond .o rfl, jcc_cond .no rfl, jcc_cond .b rfl, jcc_cond .ae rfl, jcc_cond .e rfl,
      jcc_cond .ne rfl, jcc_cond .be rfl, jcc_cond .a rfl, jcc_cond .s rfl, jcc_cond .ns rfl,
      jcc_cond .p rfl, jcc_cond .np rfl, jcc_cond .l rfl, jcc_cond .ge rfl, jcc_cond .le rfl,
      jcc_cond .g rfl⟩
  case sets =>
    simp only [setccTable, List.forall_mem_cons, List.not_mem_nil, false_implies, implies_true, and_true]
    exact ⟨setcc_cond hs hm .o rfl, setcc_cond hs hm .no rfl, setcc_cond hs hm .b rfl, setcc_cond hs hm .ae rfl,
      setcc_cond hs hm .e rfl, setcc_cond hs hm .ne rfl, setcc_cond hs hm .be rfl, setcc_cond hs hm .a rfl,
      setcc_cond hs hm .s rfl, setcc_cond hs hm .ns rfl, setcc_cond hs hm .p rfl, setcc_cond hs hm .np rfl,
      setcc_cond hs hm .l rfl, setcc_cond hs hm .ge rfl, setcc_cond hs hm .le rfl, setcc_cond hs hm .g rfl⟩

/-! ## Operands -/

/-- The place of each operand form over one base, the sum of the base registers given as a number (R118, R76). -/
theorem place_of_base {s : State} {b : EaBase} {n : Nat} {g : SReg} (hg : eaSegment b = g)
    (hn : s.regs.base b = BitVec.ofNat 16 n) (d8 : Byte) (d16 : Word) :
    s.place (.base b) = .mem (s.segment g) (BitVec.ofNat 16 n) ∧
      s.place (.disp8 b d8) = .mem (s.segment g) (BitVec.ofInt 16 (n + d8.toInt)) ∧
      s.place (.disp16 b d16) = .mem (s.segment g) (BitVec.ofNat 16 (n + d16.toNat)) := by
  subst hg
  refine ⟨by rw [State.place, hn], by rw [State.place, hn, ofNat_add_sext16], ?_⟩
  rw [State.place, hn, BitVec.ofNat_add, ← ofNat_toNat_word]

/-- Settles O25: one base of R118 after the other, then the override. -/
theorem operandPlace : Obligations.OperandPlace := by
  unfold Obligations.OperandPlace
  intro s n d8 d16
  refine ⟨rfl, rfl, ?places, ?default, ?override⟩
  case places =>
    simp only [List.forall_mem_cons, List.not_mem_nil, false_implies, implies_true, and_true]
    exact ⟨place_of_base rfl (add_eq_ofNat _ _) d8 d16, place_of_base rfl (add_eq_ofNat _ _) d8 d16,
      place_of_base rfl (add_eq_ofNat _ _) d8 d16, place_of_base rfl (add_eq_ofNat _ _) d8 d16,
      place_of_base rfl (ofNat_toNat_word _) d8 d16, place_of_base rfl (ofNat_toNat_word _) d8 d16,
      place_of_base rfl (ofNat_toNat_word _) d8 d16, place_of_base rfl (ofNat_toNat_word _) d8 d16⟩
  case default => intro g h; rw [State.segment, h]; rfl
  case override => intro g o h; rw [State.segment, h]; rfl

/-- Settles O29: each of these instructions works on its operand through `State.withMem`, which evaluates to the
refusal where the place is a register. -/
theorem registerOperandsRefused : Obligations.RegisterOperandsRefused := by
  unfold Obligations.RegisterOperandsRefused
  intro s n r
  simp only [stMemTable, stLoadTable, stStore16Table, stStore32Table, stStore64Table, stStore80Table,
    List.map_cons, List.map_nil, List.cons_append, List.nil_append, List.forall_mem_cons, List.not_mem_nil,
    false_implies, implies_true, and_true]
  and_intros <;> rfl

end Sys2Proof.Machine
end


section
/-! SUPPORT. Data transfer: an instruction that ends in one write, one push or one pop, and the statements about MOV,
the address loads, the stack, the exchanges, IN and OUT. -/

namespace Sys2Proof.Machine

/-! ## One register, or registers and flags -/

/-- A meaning that ends in a state with other registers and flags. -/
theorem changes_update {i : Instr} {s : State} {g : Regs} {f : Flags}
    (hi : exec i s = .next { s with regs := g, flags := f }) : Changes i s g f :=
  ⟨_, hi ▸ effect_update s g f s.draws⟩

/-- A meaning that ends in a write to a register. -/
theorem writes_setReg {i : Instr} {s : State} {w : Width} {r : Bits3} {v : BitVec w.bits}
    (hi : exec i s = .next (s.setReg w r v)) : Writes i s w (.reg r) v s.flags :=
  ⟨s.setReg w r v, hi ▸ effect_update s (s.regs.set r w v) s.flags s.draws, Regs.get_set s.regs r w v⟩

/-! ## MOV -/

theorem execMovRm_toReg_still {s : State} (hs : s.still) (w : Width) (rm : Rm) (r : Bits3) :
    execMovRm .toReg w rm r s = .next (s.setReg w r (s.rmRead w rm)) := by
  rw [execMovRm, rmAfter_still hs]

theorem execMovAccMem_still {s : State} (hs : s.still) (w : Width) (a : Word) :
    execMovAccMem w a s = .next (s.setReg w .b000 (s.readMem (s.segment .ds) a w)) := by
  rw [execMovAccMem, afterRead_still hs]
  rfl

/-- Settles O26: each form ends in one write, to a register or to the R/M operand; the direct address of R202 is the
operand of MOD = 00, R/M = 110. -/
theorem movWritesDestination : Obligations.MovWritesDestination := by
  unfold Obligations.MovWritesDestination
  intro s w rm r sr a imm hs hm
  exact ⟨writes_rmWrite hs hm rfl, writes_setReg (execMovRm_toReg_still hs w rm r),
    writes_setReg (execMovAccMem_still hs w a), writes_rmWrite (rm := .direct a) hs hm rfl,
    writes_rmWrite hs hm rfl, writes_setReg rfl, writes_rmWrite hs hm rfl⟩

/-! ## XLAT, LEA, LES, LDS -/

theorem zext16_eq_ofNat (b : Byte) : zext16 b = BitVec.ofNat 16 b.toNat := (BitVec.ofNat_toNat 16 b).symm

theorem execXlat_still {s : State} (hs : s.still) :
    execXlat s = .next (s.setReg .byte .b000
      (s.read8 (s.segment .ds) (BitVec.ofNat 16 (s.regs.bx.toNat + (s.regs.get8 .b000).toNat)))) := by
  rw [execXlat, afterRead_still hs, zext16_eq_ofNat, BitVec.ofNat_add, ← ofNat_toNat_word]
  rfl

theorem pointerSegment_still {s : State} (hs : s.still) (seg off : Word) :
    s.pointerSegment seg off = s.read16 seg (off + 2) := by
  rw [State.pointerSegment, accesses_still hs]

section
variable {s : State} {rm : Rm} {seg off : Word}

theorem execLea_mem (hp : s.place rm = .mem seg off) (r : Bits3) : execLea r rm s = .next (s.setReg16 r off) :=
  withMem_mem hp _

theorem execLes_still (hs : s.still) (hp : s.place rm = .mem seg off) (r : Bits3) :
    execLes r rm s = .next ((s.setReg16 r (s.read16 seg off)).setSeg .es (s.read16 seg (off + 2))) := by
  rw [execLes, withMem_mem hp, accesses_still hs, pointerSegment_still hs]
  rfl

theorem execLds_still (hs : s.still) (hp : s.place rm = .mem seg off) (r : Bits3) :
    execLds r rm s = .next ((s.setReg16 r (s.read16 seg off)).setSeg .ds (s.read16 seg (off + 2))) := by
  rw [execLds, withMem_mem hp, accesses_still hs, pointerSegment_still hs]
  rfl

end

/-- Settles O28: the operand's place and both words of the pointer are taken before a register is written. -/
theorem addressLoads : Obligations.AddressLoads := by
  unfold Obligations.AddressLoads
  intro s rm r seg off hs
  exact ⟨writes_setReg (execXlat_still hs), fun hp => ⟨writes_setReg (w := .word) (execLea_mem hp r),
    changes_update (execLes_still hs hp r), changes_update (execLds_still hs hp r)⟩⟩

/-! ## The stack -/

/-- The word a push has stored is read back from where it went. -/
theorem read16_push {s : State} (hs : s.still) (hm : s.memOk = true) (v : Word) :
    (s.push v).read16 s.regs.ss (s.regs.sp - 2) = v := by
  obtain ⟨-, -, -, htop⟩ := push_frame hs v
  have hread := (htop hm).2
  rwa [State.top, State.push_regs] at hread

/-- A meaning that ends in a push. -/
theorem pushes_push {i : Instr} {s : State} {v : Word} (hs : s.still) (hm : s.memOk = true)
    (hi : exec i s = .next (s.push v)) : Pushes i s s.regs v := by
  obtain ⟨hframe, hsame, hstale, -⟩ := push_frame hs v
  refine ⟨s.push v, ⟨hi, ?_, hsame, hstale⟩, read16_push hs hm v⟩
  rw [hframe]

/-- The register operand of a PUSH: SP on an 8086 is read after the decrement, every other one holds what it held
(R208, D23). -/
theorem pushSource_eq (s : State) (r : Bits3) :
    s.pushSource r = if r = .b100 ∧ s.cfg.level = .l8086 then s.regs.sp - 2 else s.regs.get16 r := by
  unfold State.pushSource
  cases hl : s.cfg.level with
  | l8086 => cases r <;> rfl
  | l80286 => simp
  | l80386 => simp

theorem execPushReg_eq (s : State) (r : Bits3) :
    execPushReg r s = .next (s.push
      (if r = .b100 ∧ s.cfg.level = .l8086 then s.regs.sp - 2 else s.regs.get16 r)) := by
  rw [execPushReg, pushSource_eq]

theorem pushMem_still {s : State} (hs : s.still) (rm : Rm) : s.pushMem rm = s.push (s.rmRead .word rm) := by
  rw [State.pushMem, rmAfter_still hs]

/-- PUSH register/memory: SP as a register is the one operand of its own. -/
theorem execPushRm_still {s : State} (hs : s.still) (rm : Rm) :
    execPushRm rm s = .next (s.push
      (if rm = .reg .b100 ∧ s.cfg.level = .l8086 then s.regs.sp - 2 else s.rmRead .word rm)) := by
  cases rm with
  | reg r => simp only [execPushRm, pushSource_eq, Rm.reg.injEq]; rfl
  | direct d => simp [execPushRm, pushMem_still hs]
  | base b => simp [execPushRm, pushMem_still hs]
  | disp8 b d => simp [execPushRm, pushMem_still hs]
  | disp16 b d => simp [execPushRm, pushMem_still hs]

/-- Settles O30: each form is one push of its operand. -/
theorem pushStoresOperand : Obligations.PushStoresOperand := by
  unfold Obligations.PushStoresOperand
  intro s rm r v b hs hm
  exact ⟨pushes_push hs hm (execPushReg_eq s r), pushes_push hs hm (execPushRm_still hs rm),
    pushes_push hs hm rfl, pushes_push hs hm rfl, pushes_push hs hm rfl, pushes_push hs hm rfl, pushes_push hs hm rfl,
    pushes_push hs hm rfl, pushes_push hs hm rfl⟩

theorem execPopReg_still {s : State} (hs : s.still) (r : Bits3) :
    execPopReg r s = .next ((s.setSp (s.regs.sp + 2)).setReg16 r (s.read16 s.regs.ss s.regs.sp)) := by
  rw [execPopReg, drop_still hs]
  rfl

theorem execPopRm_still {s : State} (hs : s.still) (rm : Rm) :
    execPopRm rm s = .next
      ((s.setSp (s.regs.sp + 2)).writePlace .word (s.place rm) (s.read16 s.regs.ss s.regs.sp)) := by
  rw [execPopRm, drop_still hs]
  rfl

theorem execPopf_still {s : State} (hs : s.still) :
    execPopf s = .next
      ((s.setSp (s.regs.sp + 2)).setFlags (Flags.ofWord (s.read16 s.regs.ss s.regs.sp))) := by
  rw [execPopf, drop_still hs]
  rfl

/-- Settles O31: POP R/M writes, with SP moved up, to the place the registers from before named. -/
theorem popLoadsOperand : Obligations.PopLoadsOperand := by
  unfold Obligations.PopLoadsOperand
  intro s rm r hs hm
  refine ⟨changes_update (execPopReg_still hs r), ?popRm, changes_update (execPopf_still hs)⟩
  case popRm =>
    have hs' : (s.setSp (s.regs.sp + 2)).still := hs
    obtain ⟨hframe, hsame, hstale, -⟩ :=
      writePlace_frame hs' .word (s.place rm) (s.read16 s.regs.ss s.regs.sp)
    refine ⟨_, ⟨execPopRm_still hs rm, ?_, hsame, hstale⟩, readPlace_writePlace hs' hm .word (s.place rm) _⟩
    rw [hframe]
    rfl

theorem sub_two_eq_ofInt (v : Word) : v - 2 = BitVec.ofInt 16 ((v.toNat : Int) - 2) := by
  rw [Int.sub_eq_add_neg, BitVec.ofInt_add, BitVec.ofInt_natCast, ← ofNat_toNat_word, BitVec.sub_eq_add_neg]
  rfl

/-- Memory after a write of a word. -/
theorem write16_mem_still {s : State} (hs : s.still) (seg off v : Word) :
    (s.write16 seg off v).mem =
      Memory.write (Memory.write s.mem (phys s.cfg seg off) (lowByte v)) (phys s.cfg seg (off + 1)) (highByte v) := by
  rw [State.write16, write8_still ((stores_write8 hs seg off (lowByte v)).still hs), write8_still hs]
  rfl

/-- Settles O24: a push is its frame, and a pop undoes it. -/
theorem stackOperations : Obligations.StackOperations := by
  unfold Obligations.StackOperations
  intro s v hs hm
  obtain ⟨hframe, -, -, hafter⟩ := push_frame hs v
  refine ⟨sub_two_eq_ofInt s.regs.sp ▸ hframe, ?pushMem, rfl, ?drop, (hafter hm).2, ?popped⟩
  case pushMem => rw [State.push, write16_mem_still hs, write16_mem_still (s := s.setSp (s.regs.sp - 2)) hs]; rfl
  case drop => rw [drop_still hs, add_eq_ofNat]; rfl
  case popped => rw [State.drop_regs, State.push_regs, BitVec.sub_add_cancel]

/-! ## LAHF, SAHF, XCHG -/

theorem Regs.get_set_ite (g : Regs) (n m : Bits3) (w : Width) (v : BitVec w.bits) :
    (g.set n w v).get m w = if m = n then v else g.get m w := by
  cases w with
  | byte => exact Regs.get8_set8 g n m v
  | word => exact Regs.get16_set16 g n m v

/-- Two registers that exchange their values: the first holds the second's, also where they are one register. -/
theorem Regs.get_exchange (g : Regs) (n r : Bits3) (w : Width) :
    ((g.set n w (g.get r w)).set r w (g.get n w)).get n w = g.get r w := by
  rw [Regs.get_set_ite, Regs.get_set]
  split
  next h => rw [h]
  next => rfl

/-- With nothing from outside, what a read of memory gives depends on memory and the parameters only. -/
theorem readPlace_mem_congr {s t : State} {w : Width} {seg off : Word} (hs : s.still) (ht : t.still)
    (hmem : t.mem = s.mem) (hcfg : t.cfg = s.cfg) : t.readPlace w (.mem seg off) = s.readPlace w (.mem seg off) := by
  have hbyte : ∀ o, t.read8 seg o = s.read8 seg o := fun o => by
    rw [read8_still ht, read8_still hs, hmem, hcfg]
  cases w with
  | byte => exact hbyte off
  | word =>
    calc t.read16 seg off = joinBytes (t.read8 seg (off + 1)) (t.read8 seg off) := read16_still ht seg off
      _ = joinBytes (s.read8 seg (off + 1)) (s.read8 seg off) := by rw [hbyte, hbyte]
      _ = s.read16 seg off := (read16_still hs seg off).symm

theorem place_setBusLock (s : State) (b : Bool) (rm : Rm) : (s.setBusLock b).place rm = s.place rm := by
  cases rm <;> rfl

theorem rmRead_setBusLock {s : State} (hs : s.still) (b : Bool) (w : Width) (rm : Rm) :
    (s.setBusLock b).rmRead w rm = s.rmRead w rm := by
  rw [State.rmRead, State.rmRead, place_setBusLock]
  cases s.place rm with
  | reg n => rfl
  | mem seg off => exact readPlace_mem_congr hs hs rfl rfl

theorem execXchgRm_still {s : State} (hs : s.still) (w : Width) (rm : Rm) (r : Bits3) :
    execXchgRm w rm r s = .next
      ((((s.setBusLock true).writePlace w (s.place rm) (s.regs.get r w)).setReg w r (s.rmRead w rm)).setBusLock
        s.ctl.busLock) := by
  have hlocked : (s.setBusLock true).still := hs
  rw [execXchgRm, rmAfter_still hlocked, State.rmWrite, place_setBusLock, rmRead_setBusLock hs]
  rfl

/-- XCHG with R/M: both operands get the other's old value, and the bus lock ends as it was. -/
theorem xchgRm_effect {s : State} (hs : s.still) (hm : s.memOk = true) (w : Width) (rm : Rm) (r : Bits3) :
    ∃ t, Effect (exec (.xchgRm w rm r) s) s
        ((placeRegs s.regs w (s.place rm) (s.regs.get r w)).set r w (s.rmRead w rm)) s.flags
        (placeBytes s.cfg w (s.place rm)) t ∧
      t.readPlace w (s.place rm) = s.regs.get r w ∧ t.regs.get r w = s.rmRead w rm := by
  have hlocked : (s.setBusLock true).still := hs
  obtain ⟨hframe, hsame, hstale, -⟩ := writePlace_frame hlocked w (s.place rm) (s.regs.get r w)
  refine ⟨_, ⟨execXchgRm_still hs w rm r, ?frame, hsame, hstale⟩, ?operand, Regs.get_set _ r w _⟩
  case frame => rw [hframe]; rfl
  case operand =>
    have hback := readPlace_writePlace hlocked hm w (s.place rm) (s.regs.get r w)
    rw [State.rmRead]
    cases hp : s.place rm with
    | reg n => exact Regs.get_exchange s.regs n r w
    | mem seg off =>
      have hwritten := (stores_writeMem hlocked seg off w (s.regs.get r w)).still hlocked
      rw [hp] at hback
      refine Eq.trans ?_ hback
      exact readPlace_mem_congr hwritten hwritten rfl rfl

/-- Settles O32: LAHF, SAHF and XCHG with AX change registers or flags only; XCHG with R/M has its lemma. -/
theorem flagTransferAndExchange : Obligations.FlagTransferAndExchange := by
  unfold Obligations.FlagTransferAndExchange
  intro s w rm r hs hm
  exact ⟨writes_setReg rfl, changes_update rfl, xchgRm_effect hs hm w rm r, changes_update rfl⟩

/-! ## IN and OUT -/

/-- One byte from a port: the environment's answer, or a free value where it lists none. -/
theorem readsPort_recordInput (s : State) (port : Word) :
    ReadsPort s port (s.portValue port) (s.recordInput port) := by
  refine ⟨rfl, fun x hx => ?_⟩
  cases hin : s.env.portIn with
  | nil => simp [hin] at hx
  | cons v l =>
    have hv : v = x := by simpa [hin] using hx
    rw [State.portValue, hin]
    exact hv

theorem ioRead_readsPorts {s : State} (hs : s.still) (port : Word) (w : Width) :
    ReadsPorts s port w (s.ioValue port w) (s.ioRead port w) := by
  cases w with
  | byte =>
    rw [State.ioRead, portRead_still hs]
    exact readsPort_recordInput s port
  | word =>
    have hs' : (s.recordInput port).still := hs
    refine ⟨s.recordInput port, ?low, ?high⟩
    case low =>
      rw [State.ioValue, lowByte_joinBytes]
      exact readsPort_recordInput s port
    case high =>
      rw [State.ioValue, highByte_joinBytes, State.ioRead, portRead_still hs, portRead_still hs']
      exact readsPort_recordInput _ _

theorem ioRead_regs_still {s : State} (hs : s.still) (port : Word) (w : Width) : (s.ioRead port w).regs = s.regs := by
  have hs' : (s.recordInput port).still := hs
  cases w with
  | byte => rw [State.ioRead, portRead_still hs]; rfl
  | word => rw [State.ioRead, portRead_still hs, portRead_still hs']; rfl

theorem ioWrite_still {s : State} (hs : s.still) (port : Word) (w : Width) (v : BitVec w.bits) :
    s.ioWrite port w v = { s with io := portWrites port w v ++ s.io } := by
  cases w with
  | byte => exact portWrite_still hs port v
  | word =>
    have hs' : (s.recordOutput port (lowByte v)).still := hs
    rw [State.ioWrite, portWrite_still hs, portWrite_still hs']
    rfl

/-- IN from a port. -/
theorem in_readsPorts {i : Instr} {s : State} {port : Word} {w : Width} (hs : s.still)
    (hi : exec i s = .next ((s.ioRead port w).setAcc w (s.ioValue port w))) :
    ∃ v u, ReadsPorts s port w v u ∧ exec i s = .next { u with regs := s.regs.set .b000 w v } := by
  refine ⟨_, _, ioRead_readsPorts hs port w, hi.trans ?_⟩
  rw [← ioRead_regs_still hs port w]
  rfl

/-- Settles O33: the fixed and the variable form are one access to a port, which is read or written byte by byte. -/
theorem inOut : Obligations.InOut := by
  unfold Obligations.InOut
  intro s w port hs
  simp only [List.forall_mem_cons, List.not_mem_nil, false_implies, implies_true, and_true, ← zext16_eq_ofNat]
  exact ⟨⟨in_readsPorts hs rfl, in_readsPorts hs rfl⟩,
    congrArg Host.Outcome.next (ioWrite_still hs (zext16 port) w _),
    congrArg Host.Outcome.next (ioWrite_still hs s.regs.dx w _)⟩

end Sys2Proof.Machine
end


section
/-! SUPPORT. The flags of a result, a sum and a difference as facts about numbers (R241 to R243). -/

namespace Sys2Proof.Machine

/-! ## SF, ZF, PF -/

/-- The exclusive or of `p` over a list says whether an odd number of its elements have `p`. -/
theorem foldr_xor_eq_odd_filter {α : Type} (p : α → Bool) (l : List α) :
    l.foldr (fun x b => p x ^^ b) false = decide ((l.filter p).length % 2 = 1) := by
  induction l with
  | nil => rfl
  | cons x l ih =>
    rw [List.foldr_cons, ih, List.filter_cons]
    cases p x with
    | false => simp
    | true =>
      rw [Bool.true_xor, ← decide_not, if_pos rfl, List.length_cons]
      exact decide_eq_decide.2 (by omega)

theorem parityEven_eq_even_onesLow {n : Nat} (v : BitVec n) : parityEven v = decide (onesLow v % 2 = 0) := by
  have hxor : parityEven v = !(List.range 8).foldr (fun k b => v.getLsbD k ^^ b) false := by
    simp only [parityEven, show List.range 8 = [0, 1, 2, 3, 4, 5, 6, 7] from rfl, List.foldr_cons, List.foldr_nil,
      Bool.xor_false, Bool.xor_assoc]
  rw [hxor, foldr_xor_eq_odd_filter, ← decide_not]
  exact decide_eq_decide.2 Nat.mod_two_ne_one

/-- `SetSZP_N` as facts about numbers (R241). -/
theorem szp_eq_resultFlags {n : Nat} (f : Flags) (v : BitVec n) : f.szp v = resultFlags f v := by
  have hzero : v = 0 ↔ v.toNat = 0 := by simp [← BitVec.toNat_inj]
  rw [Flags.szp, resultFlags, BitVec.msb_eq_toInt, parityEven_eq_even_onesLow, decide_eq_decide.2 hzero]

/-! ## Overflow -/

/-- The sign rule for overflow (R32): the n-bit result of adding `a`, `b` and a carry is not their sum exactly when
`a` and `b` have one sign and the result has the other. -/
theorem sign_rule_iff_overflow {n : Nat} (hn : 0 < n) {a b c : Int} (ha : -2 ^ (n - 1) ≤ a ∧ a < 2 ^ (n - 1))
    (hb : -2 ^ (n - 1) ≤ b ∧ b < 2 ^ (n - 1)) (hc : 0 ≤ c ∧ c ≤ 1) {r : BitVec n}
    (hr : r = BitVec.ofInt n (a + b + c)) :
    ((a < 0 ↔ b < 0) ∧ ¬(r.toInt < 0 ↔ a < 0)) ↔ r.toInt ≠ a + b + c := by
  obtain ⟨k, rfl⟩ : ∃ k, n = k + 1 := ⟨n - 1, by omega⟩
  have hr_lower := BitVec.le_toInt r
  have hr_upper := BitVec.toInt_lt (x := r)
  obtain ⟨m, hm⟩ : ((2 ^ (k + 1) : Nat) : Int) ∣ r.toInt - (a + b + c) := by
    rw [hr, BitVec.toInt_ofInt]
    exact Int.dvd_bmod_sub_self
  rw [show ((2 ^ (k + 1) : Nat) : Int) = 2 * 2 ^ k by push_cast; ring] at hm
  rw [Nat.add_sub_cancel] at ha hb hr_lower hr_upper
  generalize (2 : Int) ^ k = half at *
  have hm_cases : m = -1 ∨ m = 0 ∨ m = 1 := by
    have : m < 2 := by nlinarith
    have : -2 < m := by nlinarith
    omega
  rcases hm_cases with rfl | rfl | rfl <;> omega

/-! ## Sum and difference -/

theorem carryNat_eq_toNat (c : Bool) : carryNat c = c.toNat := by cases c <;> rfl

theorem carry_bounds (c : Bool) : (0 : Int) ≤ c.toNat ∧ (c.toNat : Int) ≤ 1 := by cases c <;> decide

theorem toInt_bounds {n : Nat} (v : BitVec n) : -2 ^ (n - 1) ≤ v.toInt ∧ v.toInt < 2 ^ (n - 1) :=
  ⟨BitVec.le_toInt v, BitVec.toInt_lt⟩

section
variable {n : Nat} (a b : BitVec n)

/-- A sum cut to n bits is the same from the numbers without sign and from those with. -/
theorem sumOf_eq_ofInt (c : Nat) : sumOf a b c = BitVec.ofInt n (a.toInt + b.toInt + c) := by
  simp [sumOf, BitVec.ofInt_add, BitVec.ofNat_add]

theorem differenceOf_eq_sub (c : Nat) : differenceOf a b c = a - b - BitVec.ofNat n c := by
  simp [differenceOf, Int.sub_eq_add_neg, BitVec.ofInt_add, BitVec.ofInt_neg, BitVec.sub_eq_add_neg]

theorem differenceOf_eq_ofInt (c : Nat) : differenceOf a b c = BitVec.ofInt n (a.toInt - b.toInt - c) := by
  simp [differenceOf_eq_sub, Int.sub_eq_add_neg, BitVec.ofInt_add, BitVec.ofInt_neg, BitVec.sub_eq_add_neg]

theorem addResult_eq_sumOf (c : Bool) : addResult a b c = sumOf a b c.toNat := by
  rw [addResult, carryNat_eq_toNat, sumOf]

theorem subResult_eq_differenceOf (c : Bool) : subResult a b c = differenceOf a b c.toNat := by
  rw [subResult, carryNat_eq_toNat, differenceOf_eq_sub]

section
variable (hn : 0 < n)
include hn

theorem overflow_sum (c : Bool) : (a.msb == b.msb && (sumOf a b c.toNat).msb != a.msb) =
    decide ((sumOf a b c.toNat).toInt ≠ a.toInt + b.toInt + c.toNat) := by
  have hrule := sign_rule_iff_overflow hn (toInt_bounds a) (toInt_bounds b) (carry_bounds c)
    (sumOf_eq_ofInt a b c.toNat)
  rw [Bool.eq_iff_iff, decide_eq_true_iff, ← hrule]
  simp only [BitVec.msb_eq_toInt, Bool.and_eq_true, beq_iff_eq, bne_iff_ne, ne_eq, decide_eq_decide]

/-- `a - b - c` is the sum of `a`, of the complement of `b`, whose sign is the other one, and of the complement of the
borrow. -/
theorem overflow_difference (c : Bool) : (a.msb != b.msb && (differenceOf a b c.toNat).msb != a.msb) =
    decide ((differenceOf a b c.toNat).toInt ≠ a.toInt - b.toInt - c.toNat) := by
  have hb := toInt_bounds b
  have hc := carry_bounds c
  have hcompl : a.toInt + (-b.toInt - 1) + (1 - c.toNat) = a.toInt - b.toInt - c.toNat := by ring
  have hrule := sign_rule_iff_overflow hn (toInt_bounds a) (b := -b.toInt - 1) (c := 1 - c.toNat) (by omega) (by omega)
    (hcompl ▸ differenceOf_eq_ofInt a b c.toNat)
  have hsigns : (a.toInt < 0 ↔ -b.toInt - 1 < 0) ↔ ¬(a.toInt < 0 ↔ b.toInt < 0) := by omega
  rw [hcompl, hsigns] at hrule
  rw [Bool.eq_iff_iff, decide_eq_true_iff, ← hrule]
  simp only [BitVec.msb_eq_toInt, Bool.and_eq_true, bne_iff_ne, ne_eq, decide_eq_decide]

/-- `Add_N` as facts about numbers (R242). -/
theorem add_eq_sumFlags (f : Flags) (c : Bool) : f.add a b c = sumFlags f a b c.toNat := by
  rw [Flags.add, sumFlags, addResult_eq_sumOf, overflow_sum a b hn, szp_eq_resultFlags, carryNat_eq_toNat]

/-- `Sub_N` as facts about numbers (R243). -/
theorem sub_eq_differenceFlags (f : Flags) (c : Bool) : f.sub a b c = differenceFlags f a b c.toNat := by
  rw [Flags.sub, differenceFlags, subResult_eq_differenceOf, overflow_difference a b hn, szp_eq_resultFlags,
    carryNat_eq_toNat]

end

end

end Sys2Proof.Machine

namespace Sys2Proof
open Machine

/-- Settles O22: the top bit is the sign, and the exclusive or of the low bits says whether their ones are even. -/
theorem resultFlags : Obligations.ResultFlags := by
  unfold Obligations.ResultFlags
  intro w f v
  refine ⟨?_, szp_eq_resultFlags f v⟩
  rw [Flags.szp, BitVec.msb_eq_getLsbD_last, parityEven_eq_even_onesLow]

end Sys2Proof
end


section
/-! SUPPORT. Arithmetic instructions of two operands and of one (41_arithmetic): what each operand form writes, and the
statements about ADD, ADC, SUB, SBB, CMP, INC, DEC and NEG. -/

namespace Sys2Proof.Machine

theorem width_bits_pos (w : Width) : 0 < w.bits := by cases w <;> decide

/-! ## Operand forms -/

/-- A meaning that ends in a write to a place, with the flags and the count of free values set before it. -/
theorem writes_writePlace {i : Instr} {s : State} (hs : s.still) (hm : s.memOk = true) {w : Width} {p : Place}
    {v : BitVec w.bits} {f : Flags} {d : Nat}
    (hi : exec i s = .next ({ s with flags := f, draws := d }.writePlace w p v)) : Writes i s w p v f := by
  have hs' : { s with flags := f, draws := d }.still := hs
  obtain ⟨hframe, hsame, hstale, -⟩ := writePlace_frame hs' w p v
  refine ⟨_, ⟨hi, ?_, hsame, hstale⟩, readPlace_writePlace hs' hm w p v⟩
  rw [hframe]

/-- The place of an operand is found from the registers and the prefixes. -/
theorem place_flags_draws (s : State) (f : Flags) (d : Nat) (rm : Rm) :
    { s with flags := f, draws := d }.place rm = s.place rm := by cases rm <;> rfl

section
variable {i : Instr} {s : State} {w : Width} {rm : Rm} {r : Bits3} {imm v : BitVec w.bits} {op : BinaryOp w} {f : Flags}
  {d : Nat} (hs : s.still) (hm : s.memOk = true)
include hs hm

/-- A meaning that computes a result and flags from the state, and writes the result to the R/M operand. -/
theorem writes_rmWrite_result {o : BitVec w.bits × State} (ho : o = (v, { s with flags := f, draws := d }))
    (hi : exec i s = .next (o.2.rmWrite w rm o.1)) : Writes i s w (s.place rm) v f := by
  subst ho
  exact writes_writePlace hs hm (hi.trans (by rw [State.rmWrite, place_flags_draws]))

/-- Form 1 of R244 with the R/M operand as destination. -/
theorem writes_formRm_toRm (ho : op (s.rmRead w rm) (s.regs.get r w) s = (v, { s with flags := f, draws := d }))
    (hi : exec i s = .next (s.formRm .toRm w rm r op)) : Writes i s w (s.place rm) v f :=
  writes_rmWrite_result hs hm ho (hi.trans (by rw [State.formRm, rmAfter_still hs]; rfl))

/-- Form 1 of R244 with the register as destination. -/
theorem writes_formRm_toReg (ho : op (s.regs.get r w) (s.rmRead w rm) s = (v, { s with flags := f, draws := d }))
    (hi : exec i s = .next (s.formRm .toReg w rm r op)) : Writes i s w (.reg r) v f :=
  writes_rmWrite_result (rm := .reg r) hs hm ho (hi.trans (by rw [State.formRm, rmAfter_still hs]; rfl))

/-- Form 2 of R244. -/
theorem writes_formAcc (ho : op (s.regs.get .b000 w) imm s = (v, { s with flags := f, draws := d }))
    (hi : exec i s = .next (s.formAcc w imm op)) : Writes i s w (.reg .b000) v f :=
  writes_rmWrite_result (rm := .reg .b000) hs hm ho hi

/-- Form 3 of R244. -/
theorem writes_formImm (ho : op (s.rmRead w rm) imm s = (v, { s with flags := f, draws := d }))
    (hi : exec i s = .next (s.formImm w rm imm op)) : Writes i s w (s.place rm) v f :=
  writes_rmWrite_result hs hm ho (hi.trans (by rw [State.formImm, rmAfter_still hs]))

/-- An operation on the R/M operand alone. -/
theorem writes_formUnary {op : BitVec w.bits → State → BitVec w.bits × State}
    (ho : op (s.rmRead w rm) s = (v, { s with flags := f, draws := d }))
    (hi : exec i s = .next (s.formUnary w rm op)) : Writes i s w (s.place rm) v f :=
  writes_rmWrite_result hs hm ho (hi.trans (by rw [State.formUnary, rmAfter_still hs]))

end

/-- A meaning that computes a result and flags from the state, and keeps the flags only. -/
theorem changes_of_flags {i : Instr} {s : State} {w : Width} {v : BitVec w.bits} {f : Flags} {d : Nat}
    {o : BitVec w.bits × State} (ho : o = (v, { s with flags := f, draws := d })) (hi : exec i s = .next o.2) :
    Changes i s s.regs f := by
  subst ho
  exact ⟨_, hi ▸ effect_update s s.regs f d⟩

theorem flagsRm_toRm_still {s : State} (hs : s.still) {w : Width} (rm : Rm) (r : Bits3) (op : BinaryOp w) :
    s.flagsRm .toRm w rm r op = (op (s.rmRead w rm) (s.regs.get r w) s).2 := by
  rw [State.flagsRm, rmAfter_still hs]; rfl

theorem flagsRm_toReg_still {s : State} (hs : s.still) {w : Width} (rm : Rm) (r : Bits3) (op : BinaryOp w) :
    s.flagsRm .toReg w rm r op = (op (s.regs.get r w) (s.rmRead w rm) s).2 := by
  rw [State.flagsRm, rmAfter_still hs]; rfl

theorem flagsImm_still {s : State} (hs : s.still) {w : Width} (rm : Rm) (imm : BitVec w.bits) (op : BinaryOp w) :
    s.flagsImm w rm imm op = (op (s.rmRead w rm) imm s).2 := by
  rw [State.flagsImm, rmAfter_still hs]

/-! ## The operations -/

section
variable {w : Width} (a b : BitVec w.bits) (s : State)

theorem opAdd_eq (c : Bool) : opAdd c a b s =
    (sumOf a b c.toNat, { s with flags := sumFlags s.flags a b c.toNat }) := by
  rw [opAdd, addResult_eq_sumOf, add_eq_sumFlags a b (width_bits_pos w)]; rfl

theorem opSub_eq (c : Bool) : opSub c a b s =
    (differenceOf a b c.toNat, { s with flags := differenceFlags s.flags a b c.toNat }) := by
  rw [opSub, subResult_eq_differenceOf, sub_eq_differenceFlags a b (width_bits_pos w)]; rfl

theorem opInc_eq : opInc a s = (sumOf a (BitVec.ofNat w.bits 1) 0,
    { s with flags := { sumFlags s.flags a (BitVec.ofNat w.bits 1) 0 with CF := s.flags.CF } }) := by
  rw [opInc, addResult_eq_sumOf, add_eq_sumFlags a _ (width_bits_pos w)]; rfl

theorem opDec_eq : opDec a s = (differenceOf a (BitVec.ofNat w.bits 1) 0,
    { s with flags := { differenceFlags s.flags a (BitVec.ofNat w.bits 1) 0 with CF := s.flags.CF } }) := by
  rw [opDec, subResult_eq_differenceOf, sub_eq_differenceFlags a _ (width_bits_pos w)]; rfl

theorem opNeg_eq : opNeg a s =
    (differenceOf 0 a 0, { s with flags := differenceFlags s.flags 0 a 0 }) := by
  rw [opNeg, subResult_eq_differenceOf, sub_eq_differenceFlags 0 a (width_bits_pos w)]; rfl

end

/-! ## The statements -/

section
variable {s : State} (hs : s.still) (hm : s.memOk = true) {op : ∀ {w : Width}, BinaryOp w}
  {v : ∀ {w : Width}, BitVec w.bits → BitVec w.bits → BitVec w.bits}
  {f : ∀ {w : Width}, BitVec w.bits → BitVec w.bits → Flags}
  (ho : ∀ {w : Width} (a b : BitVec w.bits), op a b s = (v a b, { s with flags := f a b }))
include hs hm ho

/-- An instruction in the four forms of R244, the third also with a sign-extended byte, writes its result to the
destination of each form. -/
theorem writes_forms {iRm : Dir → Width → Rm → Bits3 → Instr} {iAcc : (w : Width) → BitVec w.bits → Instr}
    {iImm : (w : Width) → Rm → BitVec w.bits → Instr} {iImmS : Rm → Byte → Instr}
    (hRm : ∀ d w rm r, exec (iRm d w rm r) s = .next (s.formRm d w rm r op))
    (hAcc : ∀ w imm, exec (iAcc w imm) s = .next (s.formAcc w imm op))
    (hImm : ∀ w rm imm, exec (iImm w rm imm) s = .next (s.formImm w rm imm op))
    (hImmS : ∀ rm b, exec (iImmS rm b) s = .next (s.formImm .word rm (signImm b) op))
    (w : Width) (rm : Rm) (r : Bits3) (imm : BitVec w.bits) (b : Byte) :
    let put (i : Instr) (w : Width) (p : Place) (x y : BitVec w.bits) : Prop := Writes i s w p (v x y) (f x y)
    put (iRm .toRm w rm r) w (s.place rm) (s.rmRead w rm) (s.regs.get r w) ∧
      put (iRm .toReg w rm r) w (.reg r) (s.regs.get r w) (s.rmRead w rm) ∧
      put (iAcc w imm) w (.reg .b000) (s.regs.get .b000 w) imm ∧
      put (iImm w rm imm) w (s.place rm) (s.rmRead w rm) imm ∧
      put (iImmS rm b) .word (s.place rm) (s.rmRead .word rm) (wordOf (BitVec.ofInt 16 b.toInt)) :=
  ⟨writes_formRm_toRm hs hm (ho _ _) (hRm ..), writes_formRm_toReg hs hm (ho _ _) (hRm ..),
    writes_formAcc hs hm (ho _ _) (hAcc ..), writes_formImm hs hm (ho _ _) (hImm ..),
    writes_formImm hs hm (ho _ _) (hImmS ..)⟩

end

/-- Settles O34: each form is one addition, written to its destination. -/
theorem addWritesSumAndFlags : Obligations.AddWritesSumAndFlags := by
  unfold Obligations.AddWritesSumAndFlags
  intro s w rm r imm b hs hm
  simp only [List.forall_mem_cons, List.not_mem_nil, false_implies, implies_true, and_true]
  exact ⟨writes_forms hs hm (opAdd_eq · · s false) (fun _ _ _ _ => rfl) (fun _ _ => rfl) (fun _ _ _ => rfl)
      (fun _ _ => rfl) w rm r imm b,
    writes_forms hs hm (opAdd_eq · · s s.flags.CF) (fun _ _ _ _ => rfl) (fun _ _ => rfl) (fun _ _ _ => rfl)
      (fun _ _ => rfl) w rm r imm b⟩

/-- Settles O35: each form is one subtraction, written to its destination, or, for CMP, kept for its flags only. -/
theorem subtractWritesDifferenceAndFlags : Obligations.SubtractWritesDifferenceAndFlags := by
  unfold Obligations.SubtractWritesDifferenceAndFlags
  intro s w rm r imm b hs hm
  have cmp {i : Instr} {w : Width} {x y : BitVec w.bits} (hi : exec i s = .next (opSub false x y s).2) :
      Changes i s s.regs (differenceFlags s.flags x y 0) := changes_of_flags (opSub_eq x y s false) hi
  refine ⟨?writes, cmp (congrArg Host.Outcome.next (flagsRm_toRm_still hs rm r _)),
    cmp (congrArg Host.Outcome.next (flagsRm_toReg_still hs rm r _)), cmp rfl,
    cmp (congrArg Host.Outcome.next (flagsImm_still hs rm imm _)),
    cmp (congrArg Host.Outcome.next (flagsImm_still hs rm _ _))⟩
  case writes =>
    simp only [List.forall_mem_cons, List.not_mem_nil, false_implies, implies_true, and_true]
    exact ⟨writes_forms hs hm (opSub_eq · · s false) (fun _ _ _ _ => rfl) (fun _ _ => rfl) (fun _ _ _ => rfl)
        (fun _ _ => rfl) w rm r imm b,
      writes_forms hs hm (opSub_eq · · s s.flags.CF) (fun _ _ _ _ => rfl) (fun _ _ => rfl) (fun _ _ _ => rfl)
        (fun _ _ => rfl) w rm r imm b⟩

/-- Settles O36: INC and DEC are the addition and the subtraction of 1 with CF put back, NEG the subtraction from 0. -/
theorem incDecNeg : Obligations.IncDecNeg := by
  unfold Obligations.IncDecNeg
  intro s w rm r hs hm
  exact ⟨writes_formUnary (rm := .reg r) hs hm (opInc_eq _ s) rfl, writes_formUnary hs hm (opInc_eq _ s) rfl,
    writes_formUnary (rm := .reg r) hs hm (opDec_eq _ s) rfl, writes_formUnary hs hm (opDec_eq _ s) rfl,
    writes_formUnary hs hm (opNeg_eq _ s) rfl⟩

end Sys2Proof.Machine
end

section
/-! SUPPORT. Products as numbers, with sign and without, and the extensions of a value: the statements about MUL, IMUL,
CBW, CWD, MOVSX and MOVZX (41_arithmetic, 47_80286, 48_80386). -/

namespace Sys2Proof.Machine

/-! ## Parts of a number -/

/-- The bits of a number from bit k upward are those of its quotient by 2^k. -/
theorem extractLsb'_ofInt {n k j : Nat} (h : k + j ≤ n) (m : Int) :
    (BitVec.ofInt n m).extractLsb' k j = BitVec.ofInt j (m / 2 ^ k) := by
  have hpow : (2 : Int) ^ n = 2 ^ k * 2 ^ (n - k) := by rw [← pow_add]; congr 1; omega
  have hsplit : m / 2 ^ k = m % 2 ^ n / 2 ^ k + 2 ^ (n - k) * (m / 2 ^ n) := by
    conv_lhs => rw [← Int.emod_add_mul_ediv m (2 ^ n), hpow, mul_assoc, Int.add_mul_ediv_left _ _ (by positivity)]
    rw [← hpow]
  have hcut : (2 : Int) ^ (n - k) = 2 ^ j * 2 ^ (n - k - j) := by rw [← pow_add]; congr 1; omega
  obtain ⟨r, hr⟩ := Int.eq_ofNat_of_zero_le (Int.emod_nonneg m (by positivity : (2 : Int) ^ n ≠ 0))
  apply BitVec.eq_of_toNat_eq
  rw [BitVec.extractLsb'_toNat, BitVec.toNat_ofInt, BitVec.toNat_ofInt, Nat.shiftRight_eq_div_pow, hsplit, hcut,
    mul_assoc, Nat.cast_pow, Nat.cast_pow, Nat.cast_ofNat, Int.add_mul_emod_self_left, hr]
  norm_cast

theorem ofNat_eq_zero_iff {n m : Nat} (h : m < 2 ^ n) : BitVec.ofNat n m = 0 ↔ m = 0 := by
  rw [← BitVec.toNat_inj, BitVec.toNat_ofNat, Nat.mod_eq_of_lt h]; rfl

theorem extractLsb'_ofNat {n k j : Nat} (h : k + j ≤ n) (m : Nat) :
    (BitVec.ofNat n m).extractLsb' k j = BitVec.ofNat j (m / 2 ^ k) := by
  rw [← BitVec.ofInt_natCast, extractLsb'_ofInt h, ← BitVec.ofInt_natCast]; norm_cast

theorem bmod_two_pow_eq_self_iff (k : Nat) (m : Int) : m.bmod (2 ^ (k + 1)) = m ↔ -2 ^ k ≤ m ∧ m < 2 ^ k := by
  have hpow : ((2 ^ (k + 1) : Nat) : Int) = 2 * 2 ^ k := by push_cast; ring
  rw [Int.bmod_eq_iff (by positivity), hpow, sub_self]
  simp only [dvd_zero, and_true]
  omega

/-- A number of k bits is the sign extension of its low n bits exactly when it is a number of n bits. -/
theorem ofInt_eq_signExtend_iff {n k : Nat} (hnk : n ≤ k) {m : Int} (hm : m.bmod (2 ^ k) = m) :
    BitVec.ofInt k m = (BitVec.ofInt n m).signExtend k ↔ m.bmod (2 ^ n) = m := by
  rw [← BitVec.toInt_inj, BitVec.toInt_signExtend_of_le hnk, BitVec.toInt_ofInt, BitVec.toInt_ofInt, hm, eq_comm]

/-! ## Multiplication -/

/-- A meaning that ends in the flags of a multiplication. -/
theorem changes_multiplyFlags {i : Instr} {s : State} {g : Regs} {c : Bool}
    (hi : exec i s = .next ({ s with regs := g }.multiplyFlags c)) :
    ∃ sf z a p, Changes i s g (anyStatus s.flags c sf z a p c) :=
  ⟨_, _, _, _, _, hi ▸ effect_update s g _ (s.draws + 4)⟩

theorem productWord_ofInt (s : State) (m : Int) (c : Bool) : s.productWord (BitVec.ofInt 32 m) c =
    { s with
      regs := { s.regs with dx := BitVec.ofInt 16 (m / 65536), ax := BitVec.ofInt 16 m } }.multiplyFlags c := by
  rw [State.productWord, extractLsb'_ofInt (by decide), extractLsb'_ofInt (by decide), pow_zero, Int.ediv_one]; rfl

/-- A number without sign of twice n bits fits in n bits exactly when its high half is zero. -/
theorem high_half_ne_zero_iff {n m : Nat} (hm : m < 2 ^ n * 2 ^ n) :
    (BitVec.ofNat (n + n) m).extractLsb' n n ≠ 0 ↔ 2 ^ n ≤ m := by
  have hdiv : m / 2 ^ n < 2 ^ n := Nat.div_lt_of_lt_mul hm
  rw [extractLsb'_ofNat le_rfl, Ne, ofNat_eq_zero_iff hdiv, Nat.div_eq_zero_iff]
  simp

/-- The product of two numbers with sign fits in n bits exactly when it is the sign extension of its low half. -/
theorem ne_signExtend_low_half_iff {n : Nat} (hn : 0 < n) (x y : BitVec n) {m : Int} (hm : m = x.toInt * y.toInt) :
    BitVec.ofInt (n + n) m ≠ ((BitVec.ofInt (n + n) m).extractLsb' 0 n).signExtend (n + n) ↔
      m < -2 ^ (n - 1) ∨ 2 ^ (n - 1) ≤ m := by
  obtain ⟨k, rfl⟩ : ∃ k, n = k + 1 := ⟨n - 1, by omega⟩
  have hfit : m.bmod (2 ^ (k + 1 + (k + 1))) = m := by
    have hlower := BitVec.le_toInt_mul_toInt (x := x) (y := y)
    have hupper := BitVec.toInt_mul_toInt_le (x := x) (y := y)
    rw [← hm, show (k + 1) * 2 - 2 = 2 * k by omega] at hlower hupper
    rw [show k + 1 + (k + 1) = 2 * k + 1 + 1 by omega, bmod_two_pow_eq_self_iff, pow_succ]
    have hpos : (0 : Int) < 2 ^ (2 * k) := by positivity
    omega
  rw [extractLsb'_ofInt (by omega), pow_zero, Int.ediv_one, Ne, ofInt_eq_signExtend_iff (by omega) hfit,
    bmod_two_pow_eq_self_iff, Nat.add_sub_cancel]
  omega

section
variable {s : State} (hs : s.still) (rm : Rm)
include hs

theorem execMul_byte_still {m : Nat} (hm : m = (s.regs.get8 .b000).toNat * (s.rmRead .byte rm).toNat) :
    execMul .byte rm s =
      .next ({ s with regs := { s.regs with ax := BitVec.ofNat 16 m } }.multiplyFlags (decide (256 ≤ m))) := by
  have hp : zext16 s.al * zext16 (s.rmRead .byte rm) = BitVec.ofNat 16 m := by
    rw [hm, BitVec.ofNat_mul, ← zext16_eq_ofNat, ← zext16_eq_ofNat]; rfl
  have hlt : m < 2 ^ 8 * 2 ^ 8 := hm ▸ Nat.mul_lt_mul'' (BitVec.isLt _) (BitVec.isLt _)
  simp only [execMul, rmAfter_still hs, hp]
  rw [highByte, decide_eq_decide.2 (high_half_ne_zero_iff (n := 8) hlt)]
  rfl

theorem execMul_word_still {m : Nat} (hm : m = s.regs.ax.toNat * (s.rmRead .word rm).toNat) :
    execMul .word rm s =
      .next ({ s with regs := { s.regs with
        dx := BitVec.ofNat 16 (m / 65536), ax := BitVec.ofNat 16 m } }.multiplyFlags (decide (65536 ≤ m))) := by
  have hp : s.regs.ax.setWidth 32 * (s.rmRead .word rm).setWidth 32 = BitVec.ofNat 32 m := by
    rw [hm, BitVec.ofNat_mul, BitVec.ofNat_toNat, BitVec.ofNat_toNat]
  have hlt : m < 2 ^ 16 * 2 ^ 16 := hm ▸ Nat.mul_lt_mul'' (BitVec.isLt _) (BitVec.isLt _)
  simp only [execMul, rmAfter_still hs, hp]
  rw [decide_eq_decide.2 (high_half_ne_zero_iff (n := 16) hlt), ← BitVec.ofInt_natCast, productWord_ofInt]
  norm_cast

theorem execImul_byte_still {m : Int} (hm : m = (s.regs.get8 .b000).toInt * (s.rmRead .byte rm).toInt) :
    execImul .byte rm s = .next ({ s with
      regs := { s.regs with ax := BitVec.ofInt 16 m } }.multiplyFlags (decide (m < -128 ∨ 127 < m))) := by
  have hp : sext16 s.al * sext16 (s.rmRead .byte rm) = BitVec.ofInt 16 m := by rw [hm, BitVec.ofInt_mul]; rfl
  simp only [execImul, rmAfter_still hs, hp]
  rw [sext16, lowByte, decide_eq_decide.2 (ne_signExtend_low_half_iff (n := 8) (by decide) _ _ hm)]
  rfl

theorem execImul_word_still {m : Int} (hm : m = s.regs.ax.toInt * (s.rmRead .word rm).toInt) :
    execImul .word rm s = .next ({ s with
      regs := { s.regs with dx := BitVec.ofInt 16 (m / 65536), ax := BitVec.ofInt 16 m } }.multiplyFlags
        (decide (m < -32768 ∨ 32767 < m))) := by
  have hp : s.regs.ax.signExtend 32 * (s.rmRead .word rm).signExtend 32 = BitVec.ofInt 32 m := by
    rw [hm, BitVec.ofInt_mul]; rfl
  simp only [execImul, rmAfter_still hs, hp]
  rw [decide_eq_decide.2 (ne_signExtend_low_half_iff (n := 16) (by decide) _ _ hm), productWord_ofInt]
  rfl

theorem execImul3S_still (r : Bits3) (b : Byte) {m : Int} (hm : m = (s.rmRead .word rm).toInt * b.toInt) :
    execImul3S r rm b s = .next ({ s with
      regs := s.regs.set16 r (BitVec.ofInt 16 m) }.multiplyFlags (decide (m < -32768 ∨ 32767 < m))) := by
  rw [execImul3S, rmAfter_still hs, State.imul3, sext16, BitVec.toInt_signExtend_of_le (by decide), ← hm]
  rfl

theorem execImul3_still (r : Bits3) (imm : Word) {m : Int} (hm : m = (s.rmRead .word rm).toInt * imm.toInt) :
    execImul3 r rm imm s = .next ({ s with
      regs := s.regs.set16 r (BitVec.ofInt 16 m) }.multiplyFlags (decide (m < -32768 ∨ 32767 < m))) := by
  rw [execImul3, rmAfter_still hs, State.imul3, ← hm]
  rfl

end

/-- Settles O37: each form ends in its product and the flags of a multiplication. -/
theorem multiplyGivesProduct : Obligations.MultiplyGivesProduct := by
  unfold Obligations.MultiplyGivesProduct
  intro s rm r imm b hs
  exact ⟨fun m hm => changes_multiplyFlags (execMul_byte_still hs rm hm),
    fun m hm => changes_multiplyFlags (execMul_word_still hs rm hm),
    fun m hm => changes_multiplyFlags (execImul_byte_still hs rm hm),
    fun m hm => changes_multiplyFlags (execImul_word_still hs rm hm),
    fun m hm => changes_multiplyFlags (execImul3_still hs rm r imm hm),
    fun m hm => changes_multiplyFlags (execImul3S_still hs rm r b hm)⟩

/-! ## Extensions -/

theorem execCwd_eq (s : State) : execCwd s = .next (s.setDx (if s.regs.ax.toInt < 0 then 0xFFFF else 0x0000)) := by
  rw [execCwd, BitVec.msb_eq_toInt]
  exact congrArg (fun v => Host.Outcome.next (s.setDx v)) (if_congr decide_eq_true_iff rfl rfl)

theorem execMovsx_still {s : State} (hs : s.still) (r : Bits3) (rm : Rm) :
    execMovsx r rm s = .next (s.setReg16 r (sext16 (s.rmRead .byte rm))) := by rw [execMovsx, rmAfter_still hs]

theorem execMovzx_still {s : State} (hs : s.still) (r : Bits3) (rm : Rm) :
    execMovzx r rm s = .next (s.setReg16 r (BitVec.ofNat 16 (s.rmRead .byte rm).toNat)) := by
  rw [execMovzx, rmAfter_still hs, zext16_eq_ofNat]

/-- Settles O40: the sign extension is the number with sign, the other one the number without. -/
theorem extensionsKeepValue : Obligations.ExtensionsKeepValue := by
  unfold Obligations.ExtensionsKeepValue
  intro s r rm hs
  exact ⟨changes_update rfl, changes_update (execCwd_eq s), changes_update (execMovsx_still hs r rm),
    changes_update (execMovzx_still hs r rm)⟩

end Sys2Proof.Machine
end

section
/-! SUPPORT. Division as numbers: one operation for DIV and IDIV, with a quotient that fits and without (41_arithmetic,
60_exceptions). -/

namespace Sys2Proof.Machine

/-! ## Quotient and remainder -/

/-- The quotient rounded toward zero and its remainder are the only two numbers that the rules name (R256, R257). -/
theorem tdiv_tmod_of_euclid {n d q r : Int} (hn : n = q * d + r) (hr : r.natAbs < d.natAbs) (hpos : 0 < n → 0 ≤ r)
    (hneg : n < 0 → r ≤ 0) : n.tdiv d = q ∧ n.tmod d = r := by
  have hd : d ≠ 0 := by omega
  rw [mul_comm] at hn
  rcases lt_trichotomy n 0 with h | h | h
  · exact (Int.tdiv_tmod_unique' h.le hd).2 ⟨by omega, by omega, hneg h⟩
  · have hdvd : d ∣ r := ⟨-q, by rw [mul_neg]; omega⟩
    have hr0 : r = 0 := Int.eq_zero_of_dvd_of_natAbs_lt_natAbs hdvd hr
    exact (Int.tdiv_tmod_unique h.ge hd).2 ⟨by omega, hr0.ge, by omega⟩
  · exact (Int.tdiv_tmod_unique h.le hd).2 ⟨by omega, hpos h, by omega⟩

/-- The test for a divide error (R256, R257). -/
abbrev divideErrs (n d least greatest : Int) : Prop := d = 0 ∨ greatest < n.tdiv d ∨ n.tdiv d < least

theorem divides_imp {n d q r least greatest : Int} (h : divides n d q r least greatest) :
    ¬divideErrs n d least greatest ∧ n.tdiv d = q ∧ n.tmod d = r := by
  obtain ⟨hd, hn, hr, hpos, hneg, hleast, hgreatest⟩ := h
  obtain ⟨hq, hm⟩ := tdiv_tmod_of_euclid hn hr hpos hneg
  rw [divideErrs, hq]
  exact ⟨by omega, rfl, hm⟩

theorem divideFails_imp {n d q r least greatest : Int} (h : divideFails n d q r least greatest) :
    divideErrs n d least greatest := by
  rcases h with hd | ⟨hn, hr, hpos, hneg, hq⟩
  · exact .inl hd
  · obtain ⟨hdiv, -⟩ := tdiv_tmod_of_euclid hn hr hpos hneg
    rw [divideErrs, hdiv]
    exact .inr hq.symm

/-! ## One division for DIV and IDIV -/

/-- Division of a word by a byte, of numbers. -/
def State.divideByte (s : State) (n d least greatest : Int) : State :=
  if divideErrs n d least greatest then s.divideErrorByte
  else s.quotientByte (BitVec.ofInt 8 (n.tdiv d)) (BitVec.ofInt 8 (n.tmod d))

/-- Division of a double word by a word, of numbers. -/
def State.divideWord (s : State) (n d least greatest : Int) : State :=
  if divideErrs n d least greatest then s.divideErrorWord
  else s.quotientWord (BitVec.ofInt 16 (n.tdiv d)) (BitVec.ofInt 16 (n.tmod d))

theorem divideErrs_natCast (n d greatest : Nat) : divideErrs n d 0 greatest ↔ d = 0 ∨ greatest < n / d := by
  rw [divideErrs, ← Int.ofNat_tdiv]
  generalize n / d = q
  omega

/-- IDIV's test names the ends of the quotient's range in the other order (R257). -/
theorem divideErrs_iff_idiv (s : State) (n d greatest : Int) :
    divideErrs n d (leastQuotient s.cfg (-greatest - 1)) greatest ↔
      d = 0 ∨ greatest < n.tdiv d ∨ n.tdiv d < s.leastQuotient greatest := by
  rw [divideErrs, leastQuotient, Int.sub_add_cancel, State.leastQuotient]

section
variable {s : State} (hs : s.still) (rm : Rm)
include hs

theorem execDiv_byte_still :
    execDiv .byte rm s = .next (s.divideByte s.regs.ax.toNat (s.rmRead .byte rm).toNat 0 255) := by
  simp only [execDiv, rmAfter_still hs]
  rw [State.divideByte, apply_ite Host.Outcome.next]
  refine if_congr (divideErrs_natCast _ _ 255).symm rfl ?_
  rw [← Int.ofNat_tdiv, ← Int.ofNat_tmod, BitVec.ofInt_natCast, BitVec.ofInt_natCast]

theorem execDiv_word_still :
    execDiv .word rm s = .next (s.divideWord (s.regs.dx ++ s.regs.ax).toNat (s.rmRead .word rm).toNat 0 65535) := by
  simp only [execDiv, rmAfter_still hs]
  rw [State.divideWord, apply_ite Host.Outcome.next]
  refine if_congr (divideErrs_natCast _ _ 65535).symm rfl ?_
  rw [← Int.ofNat_tdiv, ← Int.ofNat_tmod, BitVec.ofInt_natCast, BitVec.ofInt_natCast]

theorem execIdiv_byte_still : execIdiv .byte rm s =
    .next (s.divideByte s.regs.ax.toInt (s.rmRead .byte rm).toInt (leastQuotient s.cfg (-128)) 127) := by
  simp only [execIdiv, rmAfter_still hs]
  rw [State.divideByte, apply_ite Host.Outcome.next]
  exact if_congr (divideErrs_iff_idiv s _ _ 127).symm rfl rfl

theorem execIdiv_word_still : execIdiv .word rm s = .next (s.divideWord (s.regs.dx ++ s.regs.ax).toInt
    (s.rmRead .word rm).toInt (leastQuotient s.cfg (-32768)) 32767) := by
  simp only [execIdiv, rmAfter_still hs]
  rw [State.divideWord, apply_ite Host.Outcome.next]
  exact if_congr (divideErrs_iff_idiv s _ _ 32767).symm rfl rfl

end

/-! ## A quotient that fits -/

section
variable {i : Instr} {s : State} {n d q r least greatest : Int} (h : divides n d q r least greatest)
include h

theorem changes_divideByte (hi : exec i s = .next (s.divideByte n d least greatest)) :
    ∃ o sf z a p c, Changes i s { s.regs with ax := BitVec.ofInt 8 r ++ BitVec.ofInt 8 q }
      (anyStatus s.flags o sf z a p c) := by
  obtain ⟨hfits, rfl, rfl⟩ := divides_imp h
  rw [State.divideByte, if_neg hfits] at hi
  exact ⟨_, _, _, _, _, _, _, hi ▸ effect_update s _ _ (s.draws + 6)⟩

theorem changes_divideWord (hi : exec i s = .next (s.divideWord n d least greatest)) :
    ∃ o sf z a p c, Changes i s { s.regs with ax := BitVec.ofInt 16 q, dx := BitVec.ofInt 16 r }
      (anyStatus s.flags o sf z a p c) := by
  obtain ⟨hfits, rfl, rfl⟩ := divides_imp h
  rw [State.divideWord, if_neg hfits] at hi
  exact ⟨_, _, _, _, _, _, _, hi ▸ effect_update s _ _ (s.draws + 6)⟩

end

/-- Settles O38: the quotient and the remainder named are those of the division, which passes its test. -/
theorem divideGivesQuotient : Obligations.DivideGivesQuotient := by
  unfold Obligations.DivideGivesQuotient
  intro s rm q r hs
  exact ⟨fun h => changes_divideByte h (execDiv_byte_still hs rm),
    fun h => changes_divideWord h (execDiv_word_still hs rm),
    fun h => changes_divideByte h (execIdiv_byte_still hs rm),
    fun h => changes_divideWord h (execIdiv_word_still hs rm)⟩

/-! ## The divide error -/

/-- The saved IP of a divide error (R503). -/
theorem divideInterrupt_eq (s : State) : s.divideInterrupt =
    s.interrupt 0 (if s.cfg.divErrorIp = DivErrorIp.next then s.regs.ip else s.ctl.startIp) := by
  unfold State.divideInterrupt
  cases hc : s.cfg.divErrorIp <;> rfl

section
variable {i : Instr} {s : State} {n d q r least greatest : Int} (h : divideFails n d q r least greatest)
include h

theorem traps_divideByte (hi : exec i s = .next (s.divideByte n d least greatest)) :
    ∃ x o sf z a p c k, exec i s = .next ({ s with
      regs := { s.regs with ax := x }, flags := anyStatus s.flags o sf z a p c, draws := k }.interrupt 0
        (if s.cfg.divErrorIp = DivErrorIp.next then s.regs.ip else s.ctl.startIp)) := by
  rw [hi, State.divideByte, if_pos (divideFails_imp h), State.divideErrorByte, divideInterrupt_eq]
  exact ⟨_, _, _, _, _, _, _, _, rfl⟩

theorem traps_divideWord (hi : exec i s = .next (s.divideWord n d least greatest)) :
    ∃ x y o sf z a p c k, exec i s = .next ({ s with
      regs := { s.regs with ax := x, dx := y }, flags := anyStatus s.flags o sf z a p c, draws := k }.interrupt 0
        (if s.cfg.divErrorIp = DivErrorIp.next then s.regs.ip else s.ctl.startIp)) := by
  rw [hi, State.divideWord, if_pos (divideFails_imp h), State.divideErrorWord, divideInterrupt_eq]
  exact ⟨_, _, _, _, _, _, _, _, _, rfl⟩

end

/-- Settles O39: a division that fails its test takes the interrupt; a byte division names one register only. -/
theorem divideErrorTakesInterrupt : Obligations.DivideErrorTakesInterrupt := by
  unfold Obligations.DivideErrorTakesInterrupt
  intro s rm hs traps byteRegs wordRegs q r
  exact ⟨fun h => (traps_divideByte (i := .div .byte rm) h (execDiv_byte_still hs rm)).imp fun _ hx => ⟨0, hx⟩,
    fun h => traps_divideWord h (execDiv_word_still hs rm),
    fun h => (traps_divideByte (i := .idiv .byte rm) h (execIdiv_byte_still hs rm)).imp fun _ hx => ⟨0, hx⟩,
    fun h => traps_divideWord h (execIdiv_word_still hs rm)⟩

end Sys2Proof.Machine
end

section
/-! SUPPORT. The ASCII and decimal adjustments as digits and numbers (41_arithmetic). -/

namespace Sys2Proof.Machine

/-! ## Digits and halves -/

theorem joinBytes_eq_ofNat (h l : Byte) : joinBytes h l = BitVec.ofNat 16 (h.toNat * 256 + l.toNat) := by
  have hh := h.isLt
  have hl := l.isLt
  apply BitVec.eq_of_toNat_eq
  rw [toNat_eq_highByte_lowByte, highByte_joinBytes, lowByte_joinBytes, BitVec.toNat_ofNat]
  omega

theorem toNat_low_digit (b : Byte) : (b &&& 0x0F).toNat = b.toNat % 16 := Nat.and_two_pow_sub_one_eq_mod b.toNat 4

theorem toNat_add_if (c : Bool) (b k : Byte) :
    (if c then b + k else b).toNat = if c then (b.toNat + k.toNat) % 256 else b.toNat := by
  cases c with
  | false => rfl
  | true => exact BitVec.toNat_add b k

theorem lowDigitCorrection_eq (s : State) :
    s.lowDigitCorrection = decide (9 < (s.regs.get8 .b000).toNat % 16 ∨ s.flags.AF = true) := by
  rw [Bool.decide_or, Bool.decide_eq_true]; rfl

/-! ## AAA, AAS, AAD, AAM -/

/-- A meaning that ends in AH and AL, the flags and free values. -/
theorem changes_setAhAl {i : Instr} {s : State} {h l : Byte} {f : Flags} {k x : Nat} (hx : h.toNat * 256 + l.toNat = x)
    (hi : exec i s = .next (((s.setAhAl h l).setFlags f).drawn k)) :
    Changes i s { s.regs with ax := BitVec.ofNat 16 x } f := by
  rw [← hx, ← joinBytes_eq_ofNat]
  exact ⟨_, hi ▸ effect_update s _ f (s.draws + k)⟩

/-- AAA and AAS with what they add to AL and AH as bytes (R263, R264). -/
def State.asciiAdjusted (s : State) (low high : Byte) : State :=
  let c := s.lowDigitCorrection
  let al := if c then s.al + low else s.al
  let ah := if c then s.ah + high else s.ah
  ((s.setAhAl ah (al &&& 0x0F)).setFlags (s.flags.asciiAdjust c s.draws)).drawn 4

theorem execAaa_eq (s : State) : execAaa s = .next (s.asciiAdjusted 0x06 0x01) := rfl

theorem execAas_eq (s : State) : execAas s = .next (s.asciiAdjusted 0xFA 0xFF) := by
  simp only [execAas, BitVec.sub_eq_add_neg]; rfl

theorem changes_asciiAdjusted {i : Instr} {s : State} {low high : Byte} {c : Bool} (hc : s.lowDigitCorrection = c)
    (hi : exec i s = .next (s.asciiAdjusted low high)) :
    ∃ o sf z p, Changes i s { s.regs with ax := BitVec.ofNat 16 (if c then
        (s.ah.toNat + high.toNat) % 256 * 256 + (s.al.toNat + low.toNat) % 16
      else s.ah.toNat * 256 + s.al.toNat % 16) } (anyStatus s.flags o sf z c p c) := by
  subst hc
  refine ⟨_, _, _, _, changes_setAhAl ?_ hi⟩
  rw [toNat_low_digit, toNat_add_if, toNat_add_if]
  split
  · rw [Nat.mod_mod_of_dvd _ (by decide)]
  · rfl

/-- AAD and AAM: the flags are those of the number in AL. -/
theorem changes_asciiScale {i : Instr} {s : State} {h l : Byte} {n x : Nat} (hl : l = BitVec.ofNat 8 n)
    (hx : h.toNat * 256 + l.toNat = x)
    (hi : exec i s = .next (((s.setAhAl h l).setFlags (s.flags.asciiScale l s.draws)).drawn 3)) :
    ∃ o a cf, Changes i s { s.regs with ax := BitVec.ofNat 16 x }
      { resultFlags s.flags (BitVec.ofNat 8 n) with OF := o, AF := a, CF := cf } := by
  have hchanges := changes_setAhAl hx hi
  rw [Flags.asciiScale, szp_eq_resultFlags, hl] at hchanges
  exact ⟨_, _, _, hchanges⟩

/-! ## DAA, DAS -/

/-- DAA and DAS with the two corrections as bytes to add (R267, R268). -/
def State.decimalAdjusted (s : State) (low high : Byte) : State :=
  let c := s.lowDigitCorrection
  let x := if c then s.al + low else s.al
  let d := decide (0x9F < x.toNat) || s.flags.CF
  s.decimalResult (if d then x + high else x) c d

theorem execDaa_eq (s : State) : execDaa s = .next (s.decimalAdjusted 0x06 0x60) := rfl

theorem execDas_eq (s : State) : execDas s = .next (s.decimalAdjusted 0xFA 0xA0) := by
  simp only [execDas, BitVec.sub_eq_add_neg]; rfl

theorem changes_decimalResult {i : Instr} {s : State} {v : Byte} {c d : Bool}
    (hi : exec i s = .next (s.decimalResult v c d)) :
    ∃ o, Changes i s { s.regs with ax := BitVec.ofNat 16 (s.ah.toNat * 256 + v.toNat) }
      { resultFlags s.flags (BitVec.ofNat 8 v.toNat) with AF := c, CF := d, OF := o } := by
  rw [State.decimalResult, szp_eq_resultFlags] at hi
  rw [← joinBytes_eq_ofNat, BitVec.ofNat_toNat, BitVec.setWidth_eq]
  exact ⟨_, _, hi ▸ effect_update s _ _ (s.draws + 1)⟩

/-- The first correction, the second on what it left, and the flags of the last. -/
theorem changes_decimalAdjusted {i : Instr} {s : State} {low high : Byte}
    (hi : exec i s = .next (s.decimalAdjusted low high)) {x y : Nat} {c d : Bool} (hc : s.lowDigitCorrection = c)
    (hx : x = if c then (s.al.toNat + low.toNat) % 256 else s.al.toNat)
    (hd : d = decide (159 < x ∨ s.flags.CF = true)) (hy : y = if d then (x + high.toNat) % 256 else x) :
    ∃ o, Changes i s { s.regs with ax := BitVec.ofNat 16 (s.ah.toNat * 256 + y) }
      { resultFlags s.flags (BitVec.ofNat 8 y) with AF := c, CF := d, OF := o } := by
  rw [← toNat_add_if] at hx
  rw [hx, Bool.decide_or, Bool.decide_eq_true] at hd
  rw [hx, ← toNat_add_if] at hy
  subst hc hy hd
  exact changes_decimalResult hi

/-! ## The statement -/

/-- Settles O41: AAA and AAS add to the two bytes, so do DAA and DAS, where a subtraction adds the complement; AAD and
AAM are byte arithmetic modulo 256. -/
theorem decimalAdjustments : Obligations.DecimalAdjustments := by
  unfold Obligations.DecimalAdjustments
  intro s al ah hal hah c put decimal
  obtain rfl : al = s.al.toNat := hal
  obtain rfl : ah = s.ah.toNat := hah
  have hc : s.lowDigitCorrection = c := lowDigitCorrection_eq s
  refine ⟨changes_asciiAdjusted (low := 0x06) (high := 0x01) hc (execAaa_eq s),
    changes_asciiAdjusted (low := 0xFA) (high := 0xFF) hc (execAas_eq s), ?aad, ?aam, ?daa, ?das⟩
  case aad =>
    have hal : s.ah * 10 + s.al = BitVec.ofNat 8 (s.ah.toNat * 10 + s.al.toNat) := by
      simp [BitVec.ofNat_add, BitVec.ofNat_mul]
    have hax : (0 : Byte).toNat * 256 + (s.ah * 10 + s.al).toNat = (s.ah.toNat * 10 + s.al.toNat) % 256 := by
      rw [hal, BitVec.toNat_ofNat]; exact Nat.zero_add _
    exact changes_asciiScale (i := .aad) hal hax rfl
  case aam =>
    have hal : s.al % 10 = BitVec.ofNat 8 (s.al.toNat % 10) := by
      apply BitVec.eq_of_toNat_eq
      rw [BitVec.toNat_umod, BitVec.toNat_ofNat, show (10 : Byte).toNat = 10 from rfl]
      omega
    have hax : (s.al / 10).toNat * 256 + (s.al % 10).toNat = s.al.toNat / 10 * 256 + s.al.toNat % 10 := by
      rw [BitVec.toNat_udiv, BitVec.toNat_umod]; rfl
    exact changes_asciiScale (i := .aam) hal hax rfl
  case daa =>
    intro x hx d hd y hy
    exact changes_decimalAdjusted (i := .daa) (low := 0x06) (high := 0x60) (execDaa_eq s) hc hx hd hy
  case das =>
    intro x hx d hd y hy
    exact changes_decimalAdjusted (i := .das) (low := 0xFA) (high := 0xA0) (execDas_eq s) hc hx hd hy

end Sys2Proof.Machine
end

section
/-! SUPPORT. Logic instructions (42_logic_shift_rotate, R290 to R295): the flags of a logical result, and the statement
about AND, OR, XOR, TEST and NOT. -/

namespace Sys2Proof.Machine

/-- `Logic_N` as facts about numbers (R290). -/
theorem logic_eq_logicFlagsOf {n : Nat} (f : Flags) (v : BitVec n) (af : Bool) :
    f.logic v af = logicFlagsOf f v af := by
  rw [Flags.logic, szp_eq_resultFlags]; rfl

theorem logicFlags_eq {n : Nat} (s : State) (v : BitVec n) : s.logicFlags v =
    { s with flags := logicFlagsOf s.flags v (Config.freeBit s.draws), draws := s.draws + 1 } := by
  rw [State.logicFlags, logic_eq_logicFlagsOf]; rfl

/-- TEST computes the flags of a logical result and keeps nothing else (R295). -/
theorem changes_logicFlags {i : Instr} {s : State} {w : Width} {v : BitVec w.bits}
    (hi : exec i s = .next (s.logicFlags v)) : ∃ af, Changes i s s.regs (logicFlagsOf s.flags v af) :=
  ⟨_, changes_of_flags (o := (v, s.logicFlags v)) (by rw [logicFlags_eq]) hi⟩

theorem not_eq_ofInt {n : Nat} (x : BitVec n) : ~~~x = BitVec.ofInt n (-1 - (x.toNat : Int)) := by
  have hrev : (-1 - (x.toNat : Int)) = -x.toNat + -1 := by ring
  rw [BitVec.not_eq_neg_add, hrev, BitVec.ofInt_add, BitVec.ofInt_neg, BitVec.ofInt_neg, BitVec.ofInt_natCast,
    BitVec.ofNat_toNat, BitVec.setWidth_eq, BitVec.sub_eq_add_neg]
  rfl

/-- A logic instruction writes its result, with the flags of `Logic_N`, to the destination of each form of R244. -/
theorem writes_logicForms {s : State} (hs : s.still) (hm : s.memOk = true) {w : Width} {op : BinaryOp w}
    {v : BitVec w.bits → BitVec w.bits → BitVec w.bits} (ho : ∀ a b, op a b s = (v a b, s.logicFlags (v a b)))
    {iRm : Dir → Width → Rm → Bits3 → Instr} {iAcc : (w : Width) → BitVec w.bits → Instr}
    {iImm : (w : Width) → Rm → BitVec w.bits → Instr} {rm : Rm} {r : Bits3} {imm : BitVec w.bits}
    (hRm : ∀ d, exec (iRm d w rm r) s = .next (s.formRm d w rm r op))
    (hAcc : exec (iAcc w imm) s = .next (s.formAcc w imm op))
    (hImm : exec (iImm w rm imm) s = .next (s.formImm w rm imm op)) :
    let put (i : Instr) (p : Place) (v : BitVec w.bits) : Prop :=
      ∃ af, Writes i s w p v (logicFlagsOf s.flags v af)
    put (iRm .toRm w rm r) (s.place rm) (v (s.rmRead w rm) (s.regs.get r w)) ∧
      put (iRm .toReg w rm r) (.reg r) (v (s.regs.get r w) (s.rmRead w rm)) ∧
      put (iAcc w imm) (.reg .b000) (v (s.regs.get .b000 w) imm) ∧
      put (iImm w rm imm) (s.place rm) (v (s.rmRead w rm) imm) := by
  simp only [logicFlags_eq] at ho
  exact ⟨⟨_, writes_formRm_toRm hs hm (ho _ _) (hRm .toRm)⟩, ⟨_, writes_formRm_toReg hs hm (ho _ _) (hRm .toReg)⟩,
    ⟨_, writes_formAcc hs hm (ho _ _) hAcc⟩, ⟨_, writes_formImm hs hm (ho _ _) hImm⟩⟩

theorem execTestRm_still {s : State} (hs : s.still) (w : Width) (rm : Rm) (r : Bits3) :
    execTestRm w rm r s = .next (s.logicFlags (s.rmRead w rm &&& s.regs.get r w)) := by
  rw [execTestRm, rmAfter_still hs]; rfl

theorem execTestImm_still {s : State} (hs : s.still) (w : Width) (rm : Rm) (imm : BitVec w.bits) :
    execTestImm w rm imm s = .next (s.logicFlags (s.rmRead w rm &&& imm)) := by
  rw [execTestImm, rmAfter_still hs]

theorem execNot_still {s : State} (hs : s.still) (w : Width) (rm : Rm) :
    execNot w rm s = .next (s.rmWrite w rm (BitVec.ofInt w.bits (-1 - ((s.rmRead w rm).toNat : Int)))) := by
  rw [execNot, rmAfter_still hs, not_eq_ofInt]

/-- Settles O42: AND, OR and XOR are one operation in the forms of R244, TEST is its flags, NOT a write without flags. -/
theorem logicWritesResultAndFlags : Obligations.LogicWritesResultAndFlags := by
  unfold Obligations.LogicWritesResultAndFlags
  intro s w rm r imm hs hm
  refine ⟨?writes, changes_logicFlags (execTestRm_still hs w rm r), changes_logicFlags rfl,
    changes_logicFlags (execTestImm_still hs w rm imm), writes_rmWrite hs hm (execNot_still hs w rm)⟩
  case writes =>
    simp only [List.forall_mem_cons, List.not_mem_nil, false_implies, implies_true, and_true]
    exact ⟨writes_logicForms (op := opAnd) hs hm (fun _ _ => rfl) (fun _ => rfl) rfl rfl,
      writes_logicForms (op := opOr) hs hm (fun _ _ => rfl) (fun _ => rfl) rfl rfl,
      writes_logicForms (op := opXor) hs hm (fun _ _ => rfl) (fun _ => rfl) rfl rfl⟩

end Sys2Proof.Machine
end

section
/-! SUPPORT. Shifts and rotates as operations on numbers and words (42_logic_shift_rotate, R301, R310 to R313, R320 to
R322): one step, then any count of steps. -/

namespace Sys2Proof.Machine

/-! ## Steps -/

section
variable {n : Nat} {op : ShiftOp}

/-- The last of `k + 1` steps is one step from what `k` steps leave (R301). -/
theorem steps_succ_last (k : Nat) (x : BitVec n) (c : Bool) :
    op.steps (k + 1) x c = op.step (op.steps k x c).1 (op.steps k x c).2 := by
  induction k generalizing x c with
  | zero => rfl
  | succ k ih => rw [ShiftOp.steps, ih, ShiftOp.steps]

/-- Steps that do not read CF, from the operand `v j` and the CF `cf j` that the first `j` of them leave. -/
theorem steps_of_step {v : Nat → BitVec n} {cf : Nat → Bool}
    (hstep : ∀ j c, op.step (v j) c = (v (j + 1), cf (j + 1))) {x : BitVec n} (hx : v 0 = x) {k : Nat} (hk : k ≠ 0)
    (c : Bool) : op.steps k x c = (v k, cf k) := by
  obtain ⟨j, rfl⟩ := Nat.exists_eq_succ_of_ne_zero hk
  subst hx
  induction j with
  | zero => exact hstep 0 c
  | succ j ih => rw [steps_succ_last, ih j.succ_ne_zero, hstep]

end

/-! ## A bit placed at an end -/

theorem getLsbD_bitVal {n : Nat} (hn : 0 < n) (b : Bool) (i : Nat) :
    (bitVal n b).getLsbD i = if i = 0 then b else false := by
  cases b with
  | false => simp [bitVal, carryNat]
  | true => simp [bitVal, carryNat, BitVec.getLsbD_one, hn]

theorem getLsbD_topBit {n : Nat} (hn : 0 < n) (b : Bool) (i : Nat) :
    (topBit n b).getLsbD i = if i = n - 1 then b else false := by
  rw [topBit, BitVec.getLsbD_shiftLeft, getLsbD_bitVal hn]
  grind

/-! ## Shifts -/

/-- The top bit of a number is the one its double loses. -/
theorem msb_ofNat_eq_carry {n : Nat} (hn : 0 < n) (m : Nat) :
    (BitVec.ofNat n m).msb = decide (m * 2 / 2 ^ n % 2 = 1) := by
  obtain ⟨j, rfl⟩ : ∃ j, n = j + 1 := ⟨n - 1, by omega⟩
  have hdouble : (m * 2).testBit (j + 1) = m.testBit j := by
    rw [Nat.testBit_add_one, Nat.mul_div_cancel _ (by decide)]
  rw [← Nat.testBit_eq_decide_div_mod_eq, hdouble, BitVec.msb_eq_getLsbD_last, BitVec.getLsbD_ofNat]
  simp

/-- One SHL doubles, and CF is the bit that leaves the top (R320). -/
theorem step_shl {n : Nat} (hn : 0 < n) (m : Nat) (c : Bool) :
    ShiftOp.shl.step (BitVec.ofNat n m) c = (BitVec.ofNat n (m * 2), decide (m * 2 / 2 ^ n % 2 = 1)) := by
  rw [← msb_ofNat_eq_carry hn, ShiftOp.step]
  congr 1
  apply BitVec.eq_of_toNat_eq
  rw [BitVec.toNat_shiftLeft, Nat.shiftLeft_eq, BitVec.toNat_ofNat, BitVec.toNat_ofNat, pow_one, Nat.mod_mul_mod]

theorem ushiftRight_one_eq_ofNat {n : Nat} (y : BitVec n) : y >>> 1 = BitVec.ofNat n (y.toNat / 2) := by
  rw [← pow_one 2, ← Nat.shiftRight_eq_div_pow, ← BitVec.toNat_ushiftRight, BitVec.ofNat_toNat, BitVec.setWidth_eq]

/-- One SHR halves, and CF is the remainder (R322). -/
theorem step_shr {n : Nat} (y : BitVec n) (c : Bool) :
    ShiftOp.shr.step y c = (BitVec.ofNat n (y.toNat / 2), decide (y.toNat % 2 = 1)) := by
  rw [ShiftOp.step, ushiftRight_one_eq_ofNat, BitVec.getLsbD, Nat.testBit_zero]

theorem topBit_or_eq_sshiftRight {n : Nat} (hn : 0 < n) (y : BitVec n) :
    topBit n y.msb ||| y >>> 1 = y.sshiftRight 1 := by
  apply BitVec.eq_of_getLsbD_eq
  intro i hi
  rw [BitVec.getLsbD_or, getLsbD_topBit hn, BitVec.getLsbD_ushiftRight, BitVec.getLsbD_sshiftRight]
  grind

/-- One SAR halves toward minus infinity, and CF is the remainder (R321). -/
theorem step_sar {n : Nat} (hn : 0 < n) (y : BitVec n) (c : Bool) :
    ShiftOp.sar.step y c = (BitVec.ofInt n (y.toInt / 2), decide (y.toInt % 2 = 1)) := by
  have hodd : y.getLsbD 0 = decide (y.toInt % 2 = 1) := by
    obtain ⟨j, rfl⟩ : ∃ j, n = j + 1 := ⟨n - 1, by omega⟩
    rw [BitVec.getLsbD, Nat.testBit_zero, BitVec.toInt_eq_toNat_cond, pow_succ]
    grind
  rw [ShiftOp.step, topBit_or_eq_sshiftRight hn, hodd, BitVec.sshiftRight, Int.shiftRight_eq_div_pow]
  rfl

section
variable {n : Nat} (x : BitVec n) {k : Nat} (hk : k ≠ 0) (c : Bool)

theorem toInt_ofInt_div_two_pow (k : Nat) : (BitVec.ofInt n (x.toInt / 2 ^ k)).toInt = x.toInt / 2 ^ k := by
  have hdiv : x.toInt >>> k = x.toInt / 2 ^ k := by rw [Int.shiftRight_eq_div_pow]; norm_cast
  rw [← hdiv]
  exact BitVec.toInt_sshiftRight

include hk

/-- SHL by `k` (R301, R320). -/
theorem steps_shl (hn : 0 < n) : ShiftOp.shl.steps k x c =
    (BitVec.ofNat n (x.toNat * 2 ^ k), decide (x.toNat * 2 ^ k / 2 ^ n % 2 = 1)) :=
  steps_of_step (v := fun j => BitVec.ofNat n (x.toNat * 2 ^ j))
    (cf := fun j => decide (x.toNat * 2 ^ j / 2 ^ n % 2 = 1))
    (fun j c => by rw [step_shl hn, mul_assoc, ← pow_succ]) (by simp) hk c

/-- SHR by `k` (R301, R322). -/
theorem steps_shr : ShiftOp.shr.steps k x c =
    (BitVec.ofNat n (x.toNat / 2 ^ k), decide (x.toNat / 2 ^ (k - 1) % 2 = 1)) := by
  have hlt (j : Nat) : x.toNat / 2 ^ j < 2 ^ n := (Nat.div_le_self ..).trans_lt x.isLt
  exact steps_of_step (v := fun j => BitVec.ofNat n (x.toNat / 2 ^ j))
    (cf := fun j => decide (x.toNat / 2 ^ (j - 1) % 2 = 1))
    (fun j c => by
      rw [step_shr, BitVec.toNat_ofNat, Nat.mod_eq_of_lt (hlt j), Nat.div_div_eq_div_mul, ← pow_succ,
        Nat.add_sub_cancel])
    (by simp) hk c

/-- SAR by `k` (R301, R321). -/
theorem steps_sar (hn : 0 < n) : ShiftOp.sar.steps k x c =
    (BitVec.ofInt n (x.toInt / 2 ^ k), decide (x.toInt / 2 ^ (k - 1) % 2 = 1)) :=
  steps_of_step (v := fun j => BitVec.ofInt n (x.toInt / 2 ^ j))
    (cf := fun j => decide (x.toInt / 2 ^ (j - 1) % 2 = 1))
    (fun j c => by
      rw [step_sar hn, toInt_ofInt_div_two_pow, Int.ediv_ediv_of_nonneg (by positivity), ← pow_succ,
        Nat.add_sub_cancel])
    (by simp) hk c

end

/-! ## Rotates -/

section
variable {n : Nat} (x : BitVec n)

theorem rotateLeft_zero : x.rotateLeft 0 = x := by
  apply BitVec.eq_of_getMsbD_eq
  intro i hi
  rw [BitVec.getMsbD_rotateLeft, zero_add, Nat.mod_eq_of_lt hi, decide_eq_true hi, Bool.true_and]

theorem rotateLeft_add (j k : Nat) : x.rotateLeft (j + k) = (x.rotateLeft j).rotateLeft k := by
  apply BitVec.eq_of_getMsbD_eq
  intro i hi
  rw [BitVec.getMsbD_rotateLeft, BitVec.getMsbD_rotateLeft, BitVec.getMsbD_rotateLeft,
    Nat.add_mod_mod, decide_eq_true (Nat.mod_lt _ (by omega)), add_assoc]
  rfl

theorem getLsbD_rotateRight_eq {i : Nat} (k : Nat) (hi : i < n) :
    (x.rotateRight k).getLsbD i = x.getLsbD ((i + k) % n) := by
  have hk : k % n < n := Nat.mod_lt _ (by omega)
  rw [BitVec.getLsbD_rotateRight, ← Nat.add_mod_mod]
  generalize k % n = r at *
  by_cases h : i < n - r
  · rw [Nat.mod_eq_of_lt (by omega)]; simp [h, add_comm]
  · rw [Nat.mod_eq_sub_mod (by omega), Nat.mod_eq_of_lt (by omega)]
    simp [h, hi, show i - (n - r) = i + r - n by omega]

theorem rotateRight_zero : x.rotateRight 0 = x := by
  apply BitVec.eq_of_getLsbD_eq
  intro i hi
  rw [getLsbD_rotateRight_eq x 0 hi, add_zero, Nat.mod_eq_of_lt hi]

theorem rotateRight_add (j k : Nat) : x.rotateRight (j + k) = (x.rotateRight j).rotateRight k := by
  apply BitVec.eq_of_getLsbD_eq
  intro i hi
  rw [getLsbD_rotateRight_eq x _ hi, getLsbD_rotateRight_eq _ _ hi,
    getLsbD_rotateRight_eq x _ (Nat.mod_lt _ (by omega)), Nat.mod_add_mod, add_assoc, add_comm k]

section
variable (hn : 1 < n)
include hn

theorem getLsbD_rotateLeft_one (i : Nat) :
    (x.rotateLeft 1).getLsbD i = if i = 0 then x.msb else decide (i < n) && x.getLsbD (i - 1) := by
  rw [BitVec.getLsbD_rotateLeft, Nat.mod_eq_of_lt hn, BitVec.msb_eq_getLsbD_last]
  grind

theorem getLsbD_rotateRight_one (i : Nat) :
    (x.rotateRight 1).getLsbD i = if i = n - 1 then x.getLsbD 0 else x.getLsbD (i + 1) := by
  rw [BitVec.getLsbD_rotateRight, Nat.mod_eq_of_lt hn]
  grind

/-- One ROL (R312). -/
theorem step_rol (c : Bool) : ShiftOp.rol.step x c = (x.rotateLeft 1, (x.rotateLeft 1).getLsbD 0) := by
  have hrot : x <<< 1 ||| bitVal n x.msb = x.rotateLeft 1 := by
    apply BitVec.eq_of_getLsbD_eq
    intro i hi
    rw [BitVec.getLsbD_or, getLsbD_bitVal (by omega), BitVec.getLsbD_shiftLeft, getLsbD_rotateLeft_one x hn]
    grind
  rw [ShiftOp.step, hrot, getLsbD_rotateLeft_one x hn, if_pos rfl]

/-- One ROR (R313). -/
theorem step_ror (c : Bool) : ShiftOp.ror.step x c = (x.rotateRight 1, (x.rotateRight 1).msb) := by
  have hrot : topBit n (x.getLsbD 0) ||| x >>> 1 = x.rotateRight 1 := by
    apply BitVec.eq_of_getLsbD_eq
    intro i hi
    rw [BitVec.getLsbD_or, getLsbD_topBit (by omega), BitVec.getLsbD_ushiftRight, getLsbD_rotateRight_one x hn]
    grind
  rw [ShiftOp.step, hrot, BitVec.msb_eq_getLsbD_last, getLsbD_rotateRight_one x hn, if_pos rfl]

/-- ROL by `k` (R301, R312). -/
theorem steps_rol {k : Nat} (hk : k ≠ 0) (c : Bool) :
    ShiftOp.rol.steps k x c = (x.rotateLeft k, (x.rotateLeft k).getLsbD 0) :=
  steps_of_step (v := x.rotateLeft) (cf := fun j => (x.rotateLeft j).getLsbD 0)
    (fun j c => by rw [step_rol _ hn, rotateLeft_add]) (rotateLeft_zero x) hk c

/-- ROR by `k` (R301, R313). -/
theorem steps_ror {k : Nat} (hk : k ≠ 0) (c : Bool) :
    ShiftOp.ror.steps k x c = (x.rotateRight k, (x.rotateRight k).msb) :=
  steps_of_step (v := x.rotateRight) (cf := fun j => (x.rotateRight j).msb)
    (fun j c => by rw [step_ror _ hn, rotateRight_add]) (rotateRight_zero x) hk c

end

end

/-! ## Rotates through CF -/

section
variable {n : Nat} (x : BitVec n) (c : Bool)

theorem getLsbD_withCarry (i : Nat) :
    (withCarry c x).getLsbD i = if i < n then x.getLsbD i else decide (i = n) && c := by
  rw [withCarry, BitVec.getLsbD_append]
  split
  next => rfl
  next h => rw [BitVec.getLsbD_ofBool]; congr 1; grind

theorem msb_withCarry : (withCarry c x).msb = c := by
  rw [withCarry, BitVec.msb_append]; simp

theorem setWidth_withCarry : (withCarry c x).setWidth n = x := BitVec.setWidth_append_eq_right

section
variable (hn : 1 < n)
include hn

/-- One RCL rotates CF and the operand as one word (R310). -/
theorem withCarry_step_rcl :
    withCarry (ShiftOp.rcl.step x c).2 (ShiftOp.rcl.step x c).1 = (withCarry c x).rotateLeft 1 := by
  apply BitVec.eq_of_getLsbD_eq
  intro i hi
  rw [ShiftOp.step, getLsbD_withCarry, getLsbD_rotateLeft_one _ (by omega), msb_withCarry, getLsbD_withCarry,
    BitVec.getLsbD_or, BitVec.getLsbD_shiftLeft, getLsbD_bitVal (by omega), BitVec.msb_eq_getLsbD_last]
  grind

/-- One RCR rotates CF and the operand as one word (R311). -/
theorem withCarry_step_rcr :
    withCarry (ShiftOp.rcr.step x c).2 (ShiftOp.rcr.step x c).1 = (withCarry c x).rotateRight 1 := by
  apply BitVec.eq_of_getLsbD_eq
  intro i hi
  rw [ShiftOp.step, getLsbD_withCarry, getLsbD_rotateRight_one _ (by omega), getLsbD_withCarry, getLsbD_withCarry,
    BitVec.getLsbD_or, BitVec.getLsbD_ushiftRight, getLsbD_topBit (by omega)]
  grind

theorem withCarry_steps_rcl (k : Nat) :
    withCarry (ShiftOp.rcl.steps k x c).2 (ShiftOp.rcl.steps k x c).1 = (withCarry c x).rotateLeft k := by
  induction k with
  | zero => exact (rotateLeft_zero _).symm
  | succ k ih => rw [steps_succ_last, withCarry_step_rcl _ _ hn, ih, rotateLeft_add]

theorem withCarry_steps_rcr (k : Nat) :
    withCarry (ShiftOp.rcr.steps k x c).2 (ShiftOp.rcr.steps k x c).1 = (withCarry c x).rotateRight k := by
  induction k with
  | zero => exact (rotateRight_zero _).symm
  | succ k ih => rw [steps_succ_last, withCarry_step_rcr _ _ hn, ih, rotateRight_add]

/-- RCL by `k` (R301, R310). -/
theorem steps_rcl (k : Nat) : ShiftOp.rcl.steps k x c =
    (((withCarry c x).rotateLeft k).setWidth n, ((withCarry c x).rotateLeft k).msb) := by
  rw [← withCarry_steps_rcl x c hn, setWidth_withCarry, msb_withCarry]

/-- RCR by `k` (R301, R311). -/
theorem steps_rcr (k : Nat) : ShiftOp.rcr.steps k x c =
    (((withCarry c x).rotateRight k).setWidth n, ((withCarry c x).rotateRight k).msb) := by
  rw [← withCarry_steps_rcr x c hn, setWidth_withCarry, msb_withCarry]

end

end

end Sys2Proof.Machine
end

section
/-! SUPPORT. The shift and rotate instructions (42_logic_shift_rotate): what each does for a count of 0 and for any
other, and the statements about SHL, SHR, SAR, ROL, ROR, RCL and RCR. -/

namespace Sys2Proof.Machine

theorem one_lt_width_bits (w : Width) : 1 < w.bits := by cases w <;> decide

/-! ## OF for the count 1 (R302) -/

section
variable {n : Nat} (x : BitVec n) {k : Nat}

/-- OF of SHL says that the double does not fit: SHL by 1 is the sum of the operand with itself. -/
theorem overflow_shl (hk : k = 1) (hn : 0 < n) :
    ShiftOp.shl.overflow x (BitVec.ofNat n (x.toNat * 2 ^ k)) (decide (x.toNat * 2 ^ k / 2 ^ n % 2 = 1)) =
      decide ((BitVec.ofNat n (x.toNat * 2)).toInt ≠ x.toInt * 2) := by
  have hsum := overflow_sum x x hn false
  have hdouble : sumOf x x false.toNat = BitVec.ofNat n (x.toNat * 2) := by
    rw [sumOf, Bool.toNat_false, add_zero, mul_two]
  rw [hdouble, Bool.toNat_false, Nat.cast_zero, add_zero, ← mul_two] at hsum
  rw [hk, pow_one, ← msb_ofNat_eq_carry hn, BitVec.ofNat_toNat, BitVec.setWidth_eq, ← hsum, ShiftOp.overflow]
  cases x.msb <;> simp

/-- OF of SHR is the sign of the operand. -/
theorem overflow_shr (hk : k = 1) (hn : 1 < n) (c : Bool) :
    ShiftOp.shr.overflow x (BitVec.ofNat n (x.toNat / 2 ^ k)) c = decide (x.toInt < 0) := by
  rw [hk, pow_one, ← ushiftRight_one_eq_ofNat, ← BitVec.msb_eq_toInt, BitVec.msb_eq_getLsbD_last, ShiftOp.overflow,
    topTwoDiffer, BitVec.getLsbD_ushiftRight, BitVec.getLsbD_ushiftRight, BitVec.getLsbD_of_ge x _ (by omega),
    Bool.false_xor]
  congr 1
  omega

/-- OF of RCL is read from CF and the top of the word rotated. -/
theorem overflow_rcl (hn : 1 < n) (c : Bool) (v : BitVec n) (cf : Bool) : ShiftOp.rcl.overflow x v cf =
    (((withCarry c x).rotateLeft 1).msb ^^ ((withCarry c x).rotateLeft 1).getLsbD (n - 1)) := by
  rw [BitVec.msb_eq_getLsbD_last, getLsbD_rotateLeft_one _ (by omega), getLsbD_rotateLeft_one _ (by omega),
    getLsbD_withCarry, getLsbD_withCarry, ShiftOp.overflow, topTwoDiffer]
  grind

/-- OF of RCR is read from the top of the new operand. -/
theorem overflow_rcr (hn : 1 < n) (y : BitVec (1 + n)) (cf : Bool) :
    ShiftOp.rcr.overflow x (y.setWidth n) cf = (y.getLsbD (n - 1) ^^ y.getLsbD (n - 2)) := by
  rw [ShiftOp.overflow, topTwoDiffer, BitVec.getLsbD_setWidth, BitVec.getLsbD_setWidth,
    decide_eq_true (by omega), decide_eq_true (by omega), Bool.true_and, Bool.true_and]

end

/-! ## The flags -/

theorem flags_eq_shiftFlags {op : ShiftOp} (hop : op.isRotate = false) {n : Nat} (f : Flags) (k : Nat) (x v : BitVec n)
    (cf : Bool) (d : Nat) : op.flags f k x v cf d =
      shiftFlags f v cf (if k = 1 then op.overflow x v cf else Config.freeBit d) (Config.freeBit (d + 1)) := by
  rw [ShiftOp.flags, hop, szp_eq_resultFlags]; rfl

theorem flags_of_isRotate {op : ShiftOp} (hop : op.isRotate = true) {n : Nat} (f : Flags) (k : Nat) (x v : BitVec n)
    (cf : Bool) (d : Nat) : op.flags f k x v cf d =
      { f with CF := cf, OF := if k = 1 then op.overflow x v cf else Config.freeBit d } := by
  rw [ShiftOp.flags, hop]; rfl

/-! ## The operation -/

/-- With nothing from outside, a write to a place may come before or after the flags and the count of free values. -/
theorem writePlace_flags_draws {s : State} (hs : s.still) (w : Width) (p : Place) (v : BitVec w.bits) (f : Flags)
    (d : Nat) :
    { s.writePlace w p v with flags := f, draws := d } = { s with flags := f, draws := d }.writePlace w p v := by
  have hbyte {s : State} (hs : s.still) (seg off : Word) (b : Byte) :
      { s.write8 seg off b with flags := f, draws := d } = { s with flags := f, draws := d }.write8 seg off b := by
    have hs' : { s with flags := f, draws := d }.still := hs
    rw [write8_still hs, write8_still hs']; rfl
  cases p with
  | reg n => rfl
  | mem seg off =>
    cases w with
    | byte => exact hbyte hs seg off v
    | word =>
      have hlow := hbyte hs seg off (lowByte v)
      have hhigh := hbyte ((stores_write8 hs seg off (lowByte v)).still hs) seg (off + 1) (highByte v)
      exact hhigh.trans (by rw [hlow]; rfl)

section
variable {i : Instr} {s : State} {op : ShiftOp} {w : Width} {rm : Rm} {k : Nat}

/-- A shift or rotate by a count of 0 (D16, U1, U2; log 12). -/
theorem shiftsNothing_of_zero (hi : exec i s = .next (s.shift op w rm k)) (hk : k = 0) : ShiftsNothing i s w rm := by
  rw [hk, shift_zero] at hi
  exact ⟨hi, fun hs => by rw [hi, rmAfter_still hs]⟩

/-- A shift or rotate by another count writes what its steps leave, with the flags of R302 to R304. -/
theorem writes_shift (hi : exec i s = .next (s.shift op w rm k)) (hk : k ≠ 0) (hs : s.still) (hm : s.memOk = true)
    {v : BitVec w.bits} {cf : Bool} (hv : op.steps k (s.rmRead w rm) s.flags.CF = (v, cf)) :
    Writes i s w (s.place rm) v (op.flags s.flags k (s.rmRead w rm) v cf s.draws) := by
  have hshift : s.shift op w rm k =
      ((s.rmWrite w rm v).setFlags (op.flags s.flags k (s.rmRead w rm) v cf s.draws)).drawn 2 := by
    simp only [State.shift, if_neg hk, rmAfter_still hs, hv]
  refine writes_writePlace hs hm (d := s.draws + 2) (hi.trans ?_)
  rw [hshift, ← writePlace_flags_draws hs, ← State.writePlace_draws s w (s.place rm) v]
  rfl

variable {v : BitVec w.bits} {cf of1 : Bool} (hi : exec i s = .next (s.shift op w rm k))
  (hv : k ≠ 0 → op.steps k (s.rmRead w rm) s.flags.CF = (v, cf))
  (hof : k = 1 → op.overflow (s.rmRead w rm) v cf = of1)
include hi hv hof

/-- A shift by a count whose steps give `v` and `cf`: OF is the rule's for the count 1, AF a free value (R302 to
R304). -/
theorem shift_by_count (hop : op.isRotate = false) :
    (k = 0 → ShiftsNothing i s w rm) ∧
      (k ≠ 0 → s.still → s.memOk = true → ∃ o a, (k = 1 → o = of1) ∧
        Writes i s w (s.place rm) v (shiftFlags s.flags v cf o a)) := by
  refine ⟨shiftsNothing_of_zero hi, fun hk hs hm => ?_⟩
  have hwrites := writes_shift hi hk hs hm (hv hk)
  rw [flags_eq_shiftFlags hop] at hwrites
  exact ⟨_, _, fun h1 => (if_pos h1).trans (hof h1), hwrites⟩

/-- A rotate by a count whose steps give `v` and `cf`: CF and OF are all it sets (R302, R304). -/
theorem rotate_by_count (hop : op.isRotate = true) :
    (k = 0 → ShiftsNothing i s w rm) ∧
      (k ≠ 0 → s.still → s.memOk = true → ∃ o, (k = 1 → o = of1) ∧
        Writes i s w (s.place rm) v { s.flags with CF := cf, OF := o }) := by
  refine ⟨shiftsNothing_of_zero hi, fun hk hs hm => ?_⟩
  have hwrites := writes_shift hi hk hs hm (hv hk)
  rw [flags_of_isRotate hop] at hwrites
  exact ⟨_, fun h1 => (if_pos h1).trans (hof h1), hwrites⟩

end

/-- The three forms of a shift or rotate are one operation, by the count of each form (R300, R458). -/
theorem shift_forms {s : State} {op : ShiftOp} {w : Width} {rm : Rm} {cnt : Byte} {one cl imm : Instr}
    (hone : exec one s = .next (s.shift op w rm (s.shiftCount .one)))
    (hcl : exec cl s = .next (s.shift op w rm (s.shiftCount .cl)))
    (himm : exec imm s = .next (s.shift op w rm (s.immCount cnt))) :
    ∀ p ∈ [(one, 1), (cl, clCount s), (imm, byteCount s cnt)], exec p.1 s = .next (s.shift op w rm p.2) := by
  simp only [List.forall_mem_cons, List.not_mem_nil, false_implies, implies_true, and_true]
  exact ⟨hone, hcl, himm⟩

/-! ## The statements -/

/-- Settles O43: a shift by a count is so many doublings or halvings, the last of which gives CF. -/
theorem shiftByCount : Obligations.ShiftByCount := by
  unfold Obligations.ShiftByCount
  intro s w rm cnt
  have hpos := width_bits_pos w
  refine ⟨fun p hp => ?shl, fun p hp => ?shr, fun p hp => ?sar⟩
  case shl =>
    exact shift_by_count (shift_forms (op := .shl) rfl rfl rfl p hp) (fun hk => steps_shl _ hk _ hpos)
      (overflow_shl _ · hpos) rfl
  case shr =>
    exact shift_by_count (shift_forms (op := .shr) rfl rfl rfl p hp) (fun hk => steps_shr _ hk _)
      (overflow_shr _ · (one_lt_width_bits w) _) rfl
  case sar =>
    exact shift_by_count (shift_forms (op := .sar) rfl rfl rfl p hp) (fun hk => steps_sar _ hk _ hpos)
      (fun _ => rfl) rfl

/-- Settles O44: steps of ROL and ROR add up to one rotation. -/
theorem rotateByCount : Obligations.RotateByCount := by
  unfold Obligations.RotateByCount
  intro s w rm cnt
  have hbits := one_lt_width_bits w
  refine ⟨fun p hp => ?rol, fun p hp => ?ror⟩
  case rol =>
    exact rotate_by_count (shift_forms (op := .rol) rfl rfl rfl p hp) (fun hk => steps_rol _ hbits hk _)
      (fun h1 => by rw [h1]; rfl) rfl
  case ror =>
    exact rotate_by_count (shift_forms (op := .ror) rfl rfl rfl p hp) (fun hk => steps_ror _ hbits hk _)
      (fun h1 => by rw [h1]; rfl) rfl

/-- Settles O45: steps of RCL and RCR add up to one rotation of CF with the operand. -/
theorem rotateThroughCarry : Obligations.RotateThroughCarry := by
  unfold Obligations.RotateThroughCarry
  intro s w rm cnt
  have hbits := one_lt_width_bits w
  refine ⟨fun p hp => ?rcl, fun p hp => ?rcr⟩
  case rcl =>
    exact rotate_by_count (shift_forms (op := .rcl) rfl rfl rfl p hp) (fun _ => steps_rcl _ _ hbits p.2)
      (fun _ => overflow_rcl _ hbits _ _ _) rfl
  case rcr =>
    exact rotate_by_count (shift_forms (op := .rcr) rfl rfl rfl p hp) (fun _ => steps_rcr _ _ hbits p.2)
      (fun h1 => by rw [h1]; exact overflow_rcr _ hbits _ _) rfl

end Sys2Proof.Machine
end


section
/-! SUPPORT. A step in which an instruction is under way, or the processor is halted or waits. -/

namespace Sys2Proof.Machine

theorem isPrefix_of_isString {i : Instr} (h : isString i = true) : isPrefix i = false := by
  cases i with
  | movs | cmps | scas | lods | stos | ins | outs => rfl
  | _ => cases h

/-- A running processor goes on with the repetition under way: one more iteration, with IP past the instruction,
and nothing fetched (R339; log 8). -/
theorem runInstr_resume {s t : State} {r : Repeat} (hr : s.ctl.resume = some r) (hs : isString r.instr = true)
    (hreset : s.resetReached = false)
    (hx : exec r.instr { s with
        regs := { s.regs with ip := r.ipNext }
        ctl := { s.ctl with resume := none, inhibit := false, busLock := s.ctl.pfx.lock } } = .next t) :
    s.runInstr = .next (t.afterMeaning r.instr s.flags.TF s.ctl.inhibit) := by
  let u : State := { s with regs := { s.regs with ip := r.ipNext }, ctl := { s.ctl with resume := none } }
  have hrun : s.runInstr = u.perform r.instr := by rw [State.runInstr, hr]
  have hlock : (u.ctl.pfx.lock && !isPrefix r.instr) = s.ctl.pfx.lock := by
    rw [isPrefix_of_isString hs]
    exact Bool.and_true _
  rw [hrun]
  refine perform_of_next (s := u) hreset (.inr (.inr hs)) ?_
  rw [hlock]
  exact hx

theorem waitOver_iff (s : State) : s.waitOver = true ↔ s.env.testReady = true ∨ s.cfg.has8087 = false := by
  simp [State.waitOver]

theorem waitStep_over {s : State} (h : s.env.testReady = true ∨ s.cfg.has8087 = false) (ipNext : Word) :
    s.waitStep ipNext = .next (((s.setRun .running).setIp ipNext).completed s.flags.TF) := by
  rw [State.waitStep, if_pos ((waitOver_iff s).2 h), complete_eq_completed]

theorem waitStep_waits {s : State} (ht : s.env.testReady = false) (hc : s.cfg.has8087 = true) (ipNext : Word) :
    s.waitStep ipNext = .next s := by
  have hnot : ¬s.waitOver = true := by simp [waitOver_iff, ht, hc]
  rw [State.waitStep, if_neg hnot]

/-- Settles O6: with no request recognised the step is what the run state says, an iteration, nothing, or the end of
the wait. -/
theorem stepsUnderWay : Obligations.StepsUnderWay := by
  unfold Obligations.StepsUnderWay
  intro s u hreset hq
  have hstep : step s = settled u.advanceStep := (step_cases hreset).2 (recognise_noRequest hq)
  refine ⟨fun r hrun hr hs hreached t hx => ?iteration, fun hrun _ => ?halted,
    fun ipNext hrun => ⟨fun hover => ?ready, fun ht hc => ?waits⟩⟩
  all_goals rw [hstep, State.advanceStep, hrun]
  case iteration => exact congrArg settled (runInstr_resume hr hs hreached hx)
  case halted => rfl
  case ready => exact congrArg settled (waitStep_over (s := u.setInhibit false) hover ipNext)
  case waits => exact congrArg settled (waitStep_waits (s := u.setInhibit false) ht hc ipNext)

end Sys2Proof.Machine
end


section
/-! SUPPORT. The string instructions (43_string): one operation of each, which is the same under REP and REPNE,
and what ends a repetition. -/

namespace Sys2Proof.Machine

/-! ## Operations beside the prefixes -/

section
variable (s : State) (q : Prefixes)

theorem agentStores_setPfx (l : List Host.Cell) : (s.setPfx q).agentStores l = (s.agentStores l).setPfx q := by
  cases h : s.ctl.busLock with
  | true => rw [agentStores_locked h, agentStores_locked (by exact h)]; rfl
  | false => rw [agentStores_free h, agentStores_free (by exact h)]; rfl

@[simp] theorem access_setPfx : (s.setPfx q).access = s.access.setPfx q := by
  cases h : s.env.bus with
  | nil => rw [access_still h, access_still (by exact h)]
  | cons e rest =>
    cases e with
    | stores cells => rw [access_stores h, access_stores (by exact h), ← agentStores_setPfx]; rfl
    | reset =>
      have hr : s.resetReached = true := by simp [State.resetReached, h]
      rw [access_of_reset hr, access_of_reset (by exact hr)]

@[simp] theorem accesses_setPfx (n : Nat) : (s.setPfx q).accesses n = (s.accesses n).setPfx q := by
  induction n generalizing s with
  | zero => rfl
  | succ n ih => rw [State.accesses, access_setPfx, ih]; rfl

@[simp] theorem afterRead_setPfx (w : Width) : (s.setPfx q).afterRead w = (s.afterRead w).setPfx q :=
  accesses_setPfx s q _

@[simp] theorem resetReached_setPfx : (s.setPfx q).resetReached = s.resetReached := rfl

@[simp] theorem read8_setPfx (seg off : Word) : (s.setPfx q).read8 seg off = s.read8 seg off := by
  rw [State.read8, access_setPfx]; rfl

@[simp] theorem readMem_setPfx (seg off : Word) (w : Width) :
    (s.setPfx q).readMem seg off w = s.readMem seg off w := by
  cases w <;> simp [State.readMem, State.read16]

@[simp] theorem write8_setPfx (seg off : Word) (v : Byte) :
    (s.setPfx q).write8 seg off v = (s.write8 seg off v).setPfx q := by
  cases h : s.resetReached with
  | true => rw [write8_of_reset h, write8_of_reset (by exact h)]
  | false => rw [write8_running h, write8_running (by exact h), access_setPfx]; rfl

@[simp] theorem writeMem_setPfx (seg off : Word) (w : Width) (v : BitVec w.bits) :
    (s.setPfx q).writeMem seg off w v = (s.writeMem seg off w v).setPfx q := by
  cases w <;> simp [State.writeMem, State.write16]

@[simp] theorem portValue_setPfx (port : Word) : (s.setPfx q).portValue port = s.portValue port := rfl

@[simp] theorem portRead_setPfx (port : Word) : (s.setPfx q).portRead port = (s.portRead port).setPfx q := by
  unfold State.portRead
  rw [resetReached_setPfx, access_setPfx]
  split <;> rfl

@[simp] theorem portWrite_setPfx (port : Word) (v : Byte) :
    (s.setPfx q).portWrite port v = (s.portWrite port v).setPfx q := by
  unfold State.portWrite
  rw [resetReached_setPfx, access_setPfx]
  split <;> rfl

@[simp] theorem ioValue_setPfx (port : Word) (w : Width) : (s.setPfx q).ioValue port w = s.ioValue port w := by
  cases w <;> simp [State.ioValue]

@[simp] theorem ioRead_setPfx (port : Word) (w : Width) :
    (s.setPfx q).ioRead port w = (s.ioRead port w).setPfx q := by
  cases w <;> simp [State.ioRead]

@[simp] theorem ioWrite_setPfx (port : Word) (w : Width) (v : BitVec w.bits) :
    (s.setPfx q).ioWrite port w v = (s.ioWrite port w v).setPfx q := by
  cases w <;> simp [State.ioWrite]

@[simp] theorem setStringDest_setPfx (w : Width) (v : BitVec w.bits) :
    (s.setPfx q).setStringDest w v = (s.setStringDest w v).setPfx q := writeMem_setPfx s q _ _ w v

@[simp] theorem stringDest_setPfx (w : Width) : (s.setPfx q).stringDest w = s.stringDest w := readMem_setPfx s q _ _ w

@[simp] theorem acc_setPfx (w : Width) : (s.setPfx q).acc w = s.acc w := rfl

variable {q} in
/-- The source element depends on the prefixes by the segment override only (R331). -/
theorem stringSource_setPfx (h : q.seg = s.ctl.pfx.seg) (w : Width) :
    (s.setPfx q).stringSource w = s.stringSource w := by
  have hseg : (s.setPfx q).segment .ds = s.segment .ds := by
    rw [State.segment, State.segment, State.setPfx_ctl, h]; rfl
  rw [State.stringSource, hseg, readMem_setPfx]; rfl

end

/-! ## One operation, under REP and REPNE or not -/

/-- An operation of a string instruction: of the hidden state it changes what prefetch may hold only, and of the
prefixes it sees the segment override only. -/
structure StringOp (once : State → State) : Prop where
  operates : ∀ s, Operates s (once s)
  setPfx : ∀ s q, q.seg = s.ctl.pfx.seg → once (s.setPfx q) = (once s).setPfx q

section
variable (w : Width)

theorem stringOp_movs : StringOp (State.movsOnce w) :=
  ⟨(operates_movsOnce · w), fun s _ h => by
    simp only [State.movsOnce, stringSource_setPfx s h, afterRead_setPfx, setStringDest_setPfx]; rfl⟩

theorem stringOp_cmps : StringOp (State.cmpsOnce w) :=
  ⟨(operates_cmpsOnce · w), fun s _ h => by
    simp only [State.cmpsOnce, stringSource_setPfx s h, afterRead_setPfx, stringDest_setPfx]; rfl⟩

theorem stringOp_scas : StringOp (State.scasOnce w) :=
  ⟨(operates_scasOnce · w), fun s _ _ => by
    simp only [State.scasOnce, afterRead_setPfx, stringDest_setPfx]; rfl⟩

theorem stringOp_lods : StringOp (State.lodsOnce w) :=
  ⟨(operates_lodsOnce · w), fun s _ h => by
    simp only [State.lodsOnce, stringSource_setPfx s h, afterRead_setPfx]; rfl⟩

theorem stringOp_stos : StringOp (State.stosOnce w) :=
  ⟨(operates_stosOnce · w), fun s _ _ => by
    simp only [State.stosOnce, acc_setPfx, setStringDest_setPfx]; rfl⟩

theorem stringOp_ins : StringOp (State.insOnce w) :=
  ⟨(operates_insOnce · w), fun s _ _ => by
    simp only [State.insOnce, State.setPfx_regs, ioValue_setPfx, ioRead_setPfx, setStringDest_setPfx]; rfl⟩

theorem stringOp_outs : StringOp (State.outsOnce w) :=
  ⟨(operates_outsOnce · w), fun s _ h => by
    simp only [State.outsOnce, State.setPfx_regs, stringSource_setPfx s h, afterRead_setPfx, ioWrite_setPfx]; rfl⟩

end

/-- A string instruction is one operation, repeated; CMPS and SCAS compare. -/
theorem exec_string {i : Instr} (hi : isString i = true) : ∃ c once, StringOp once ∧
    (c = true ↔ ∃ w, i = .cmps w ∨ i = .scas w) ∧ ∀ s, exec i s = .next (s.repeated i c once) := by
  cases i with
  | movs w => exact ⟨false, _, stringOp_movs w, by simp, fun _ => rfl⟩
  | cmps w => exact ⟨true, _, stringOp_cmps w, by simp, fun _ => rfl⟩
  | scas w => exact ⟨true, _, stringOp_scas w, by simp, fun _ => rfl⟩
  | lods w => exact ⟨false, _, stringOp_lods w, by simp, fun _ => rfl⟩
  | stos w => exact ⟨false, _, stringOp_stos w, by simp, fun _ => rfl⟩
  | ins w => exact ⟨false, _, stringOp_ins w, by simp, fun _ => rfl⟩
  | outs w => exact ⟨false, _, stringOp_outs w, by simp, fun _ => rfl⟩
  | _ => cases hi

/-! ## Repetition -/

theorem mismatch_iff (p : Rep) (zf : Bool) :
    p.mismatch zf = true ↔ p = .rep ∧ zf = false ∨ p = .repne ∧ zf = true := by
  cases p <;> simp [Rep.mismatch]

/-- One iteration: the operation, CX counted down, and the instruction over or suspended (R339). -/
theorem repeated_nonzero {s : State} {p : Rep} (hp : s.ctl.pfx.rep = some p) (hc : s.regs.cx ≠ 0) (i : Instr)
    (c : Bool) (once : State → State) : s.repeated i c once =
      if (c = true ∧ p.mismatch (once s).flags.ZF = true) ∨ s.regs.cx = 1 then (once s).setCx (s.regs.cx - 1)
      else ((once s).setCx (s.regs.cx - 1)).suspend i s.regs.ip := by
  have hlast : s.regs.cx - 1 = 0 ↔ s.regs.cx = 1 := sub_eq_zero
  rw [State.repeated, hp, ite_or]
  simp only [if_neg hc, State.setCx_flags, State.setCx_regs, Bool.and_eq_true, hlast]

theorem StringOp.ctl {once : State → State} (h : StringOp once) (s : State) :
    (once s).ctl = { s.ctl with stale := (once s).ctl.stale } := by
  have hhidden := (h.operates s).hidden
  exact congrArg (fun d : Control => { d with stale := (once s).ctl.stale }) hhidden

/-- Settles O47: the operation is the same without REP or REPNE, and what follows it is one case distinction. -/
theorem repetition : Obligations.Repetition := by
  unfold Obligations.Repetition
  intro s p hp i hi
  obtain ⟨c, once, hop, hcompares, hexec⟩ := exec_string hi
  have hctl := hop.ctl s
  refine ⟨fun hc => by rw [hexec, repeated_zero hp hc],
    fun hc => ⟨(once s).setPfx { s.ctl.pfx with rep := none }, ?single, ?iteration⟩⟩
  case single =>
    have honce := hop.setPfx s { s.ctl.pfx with rep := none } rfl
    exact (hexec _).trans (congrArg Host.Outcome.next ((repeated_single rfl i c once).trans honce))
  case iteration =>
    intro done ended
    have hdone : done = (once s).setCx (s.regs.cx - 1) :=
      congrArg (fun d => { (once s).setCx (s.regs.cx - 1) with ctl := d }) hctl.symm
    have hended : ended ↔ (c = true ∧ p.mismatch (once s).flags.ZF = true) ∨ s.regs.cx = 1 := by
      rw [hcompares, mismatch_iff, or_comm]
      rfl
    have hstart : (once s).ctl.startIp = s.ctl.startIp := by rw [hctl]
    rw [hexec, repeated_nonzero hp hc]
    refine ⟨fun h => ?_, fun h => ?_⟩
    · rw [if_pos (hended.1 h), hdone]
    · rw [if_neg (mt hended.2 h), hdone, State.suspend, State.setCx_ctl, hstart]

/-! ## One operation with nothing from outside -/

/-- An index register after the element (R330). -/
theorem add_indexStep (s : State) (w : Width) (x : Word) : x + s.indexStep w = stepped s w x := by
  unfold State.indexStep stepped
  cases s.flags.DF with
  | false => simp [BitVec.ofInt_add]
  | true => simp [Int.sub_eq_add_neg, BitVec.ofInt_add, BitVec.ofInt_neg]

theorem sub_false_eq_differenceFlags {w : Width} (f : Flags) (a b : BitVec w.bits) :
    f.sub a b false = differenceFlags f a b 0 := sub_eq_differenceFlags a b (width_bits_pos w) f false

theorem stosOnce_eq (s : State) (w : Width) : s.stosOnce w =
    { s.writeMem s.regs.es s.regs.di w (s.regs.get .b000 w) with
      regs := { s.regs with di := stepped s w s.regs.di } } := by
  simp only [← add_indexStep]
  have hacc : s.acc w = s.regs.get .b000 w := rfl
  simp [State.stosOnce, State.setStringDest, State.stepDi, State.indexStep, hacc]

section
variable {s : State} (hs : s.still) (w : Width)
include hs

theorem movsOnce_still : s.movsOnce w =
    { s.writeMem s.regs.es s.regs.di w (s.readMem (s.segment .ds) s.regs.si w) with
      regs := { s.regs with si := stepped s w s.regs.si, di := stepped s w s.regs.di } } := by
  simp only [← add_indexStep]
  simp [State.movsOnce, afterRead_still hs, State.setStringDest, State.stringSource, State.stepSi, State.stepDi,
    State.indexStep]

theorem cmpsOnce_still : s.cmpsOnce w = { s with
    regs := { s.regs with si := stepped s w s.regs.si, di := stepped s w s.regs.di }
    flags := differenceFlags s.flags (s.readMem (s.segment .ds) s.regs.si w)
      (s.readMem s.regs.es s.regs.di w) 0 } := by
  simp only [← add_indexStep, ← sub_false_eq_differenceFlags]
  simp only [State.cmpsOnce, afterRead_still hs]
  rfl

theorem scasOnce_still : s.scasOnce w = { s with
    regs := { s.regs with di := stepped s w s.regs.di }
    flags := differenceFlags s.flags (s.regs.get .b000 w) (s.readMem s.regs.es s.regs.di w) 0 } := by
  simp only [← add_indexStep, ← sub_false_eq_differenceFlags]
  simp only [State.scasOnce, afterRead_still hs]
  rfl

theorem lodsOnce_still : s.lodsOnce w = { s with
    regs := { s.regs.set .b000 w (s.readMem (s.segment .ds) s.regs.si w) with si := stepped s w s.regs.si } } := by
  simp only [← add_indexStep]
  simp only [State.lodsOnce, afterRead_still hs]
  cases w <;> rfl

theorem outsOnce_still : s.outsOnce w = { s with
    regs := { s.regs with si := stepped s w s.regs.si }
    io := portWrites s.regs.dx w (s.readMem (s.segment .ds) s.regs.si w) ++ s.io } := by
  simp only [← add_indexStep]
  simp only [State.outsOnce, afterRead_still hs, ioWrite_still hs]
  rfl

end

/-- What a read of a port leaves alone. -/
theorem readsPorts_frame {s u : State} {port : Word} {w : Width} {v : BitVec w.bits} (h : ReadsPorts s port w v u) :
    u = { s with env := u.env, io := u.io, draws := u.draws } ∧ u.env.bus = s.env.bus := by
  cases w with
  | byte =>
    obtain ⟨hu, -⟩ := h
    rw [hu]
    exact ⟨rfl, rfl⟩
  | word =>
    obtain ⟨m, ⟨hm, -⟩, hu, -⟩ := h
    rw [hu, hm]
    exact ⟨rfl, rfl⟩

/-- An outcome that ends in a write to memory, with other registers beside it. -/
theorem effect_writeMem {s : State} (hs : s.still) (hm : s.memOk = true) {r : Result} {seg off : Word} {w : Width}
    {v : BitVec w.bits} {g : Regs} (hr : r = .next { s.writeMem seg off w v with regs := g }) :
    ∃ t, Effect r s g s.flags (bytesAt s.cfg seg off w.bytes.toNat) t ∧ t.readMem seg off w = v := by
  have hstores := stores_writeMem hs seg off w v
  have hwritten := hstores.still hs
  have hregs : { s.writeMem seg off w v with regs := g }.readPlace w (.mem seg off) =
      (s.writeMem seg off w v).readPlace w (.mem seg off) := readPlace_mem_congr hwritten hwritten rfl rfl
  exact ⟨_, ⟨hr, by rw [hstores.frame], hstores.same, hstores.stale⟩,
    hregs.trans (readMem_writeMem hs hm seg off w v)⟩

/-- One INS: a read of the port, and then a store in the state that it leaves. -/
theorem insOnce_still {s : State} (hs : s.still) (w : Width) : s.insOnce w =
    { (s.ioRead s.regs.dx w).writeMem s.regs.es s.regs.di w (s.ioValue s.regs.dx w) with
      regs := { s.regs with di := stepped s w s.regs.di } } := by
  have hregs := ioRead_regs_still hs s.regs.dx w
  obtain ⟨hframe, -⟩ := readsPorts_frame (ioRead_readsPorts hs s.regs.dx w)
  have hflags : (s.ioRead s.regs.dx w).flags = s.flags := by rw [hframe]
  simp only [← add_indexStep]
  simp [State.insOnce, State.setStringDest, State.stepDi, State.indexStep, hregs, hflags]

/-! ## The statement -/

/-- Settles O46: without REP or REPNE each instruction is its one operation, which reads its elements first, and
ends in registers and flags, in a store at ES:DI, or in a write to the port. -/
theorem stringOperations : Obligations.StringOperations := by
  unfold Obligations.StringOperations
  intro s w hs hm hrep src dst si di there
  have single {i : Instr} {c : Bool} {once : State → State} {t : State} (hi : exec i s = .next (s.repeated i c once))
      (ht : once s = t) : exec i s = .next t := by
    rw [hi, repeated_single hrep, ht]
  refine ⟨effect_writeMem hs hm (single rfl (movsOnce_still hs w)), changes_update (single rfl (cmpsOnce_still hs w)),
    changes_update (single rfl (scasOnce_still hs w)), changes_update (single rfl (lodsOnce_still hs w)),
    effect_writeMem hs hm (single rfl (stosOnce_eq s w)), ?ins, single rfl (outsOnce_still hs w)⟩
  case ins =>
    have hread := ioRead_readsPorts hs s.regs.dx w
    obtain ⟨hframe, hbus⟩ := readsPorts_frame hread
    have hu : (s.ioRead s.regs.dx w).still := hbus.trans hs
    have hum : (s.ioRead s.regs.dx w).memOk = true := by rw [hframe]; exact hm
    have hcfg : (s.ioRead s.regs.dx w).cfg = s.cfg := by rw [hframe]
    have hflags : (s.ioRead s.regs.dx w).flags = s.flags := by rw [hframe]
    obtain ⟨t, heffect, hvalue⟩ := effect_writeMem hu hum (single (i := .ins w) rfl (insOnce_still hs w))
    rw [hcfg, hflags] at heffect
    exact ⟨_, _, t, hread, heffect, hvalue⟩

end Sys2Proof.Machine
end


section
/-! SUPPORT. The words of the stack: what a push puts there, what it leaves, and what a pop takes (R77, R200). -/

namespace Sys2Proof.Machine

/-- With nothing from outside, a word of memory depends on memory and the parameters only. -/
theorem read16_congr {s t : State} (hs : s.still) (ht : t.still) (hmem : t.mem = s.mem) (hcfg : t.cfg = s.cfg)
    (seg off : Word) : t.read16 seg off = s.read16 seg off :=
  readPlace_mem_congr (w := .word) hs ht hmem hcfg

theorem stackWord_still {s : State} (hs : s.still) (k : Nat) :
    s.stackWord k = s.read16 s.regs.ss (s.regs.sp + BitVec.ofNat 16 (2 * k)) := by
  rw [State.stackWord, accesses_still hs]

theorem top_eq_stackWord (s : State) : s.top = s.stackWord 0 :=
  congrArg (s.read16 s.regs.ss) (BitVec.add_zero s.regs.sp).symm

theorem stackWord_congr {s t : State} (hs : s.still) (ht : t.still) (hmem : t.mem = s.mem) (hcfg : t.cfg = s.cfg)
    (hss : t.regs.ss = s.regs.ss) (hsp : t.regs.sp = s.regs.sp) (k : Nat) : t.stackWord k = s.stackWord k := by
  rw [stackWord_still ht, stackWord_still hs, hss, hsp]
  exact read16_congr hs ht hmem hcfg _ _

theorem stackWord_setFlags {s : State} (hs : s.still) (f : Flags) (k : Nat) :
    (s.setFlags f).stackWord k = s.stackWord k := by
  have hs' : (s.setFlags f).still := hs
  exact stackWord_congr hs hs' rfl rfl rfl rfl k

/-! ## Pops -/

theorem still_drop {s : State} (hs : s.still) : s.drop.still := by
  rw [drop_still hs]
  exact hs

/-- A pop takes the top away. -/
theorem stackWord_drop {s : State} (hs : s.still) (k : Nat) : s.drop.stackWord k = s.stackWord (k + 1) := by
  have hs' : (s.setSp (s.regs.sp + 2)).still := hs
  have hplace : s.regs.sp + 2#16 + BitVec.ofNat 16 (2 * k) = s.regs.sp + BitVec.ofNat 16 (2 * (k + 1)) := by
    rw [BitVec.add_assoc, ← BitVec.ofNat_add, Nat.mul_succ, Nat.add_comm 2]
  rw [drop_still hs, stackWord_still hs', stackWord_still hs, ← hplace]
  exact read16_congr hs hs' rfl rfl _ _

theorem drop_top {s : State} (hs : s.still) : s.drop.top = s.stackWord 1 := by
  rw [top_eq_stackWord, stackWord_drop hs]

theorem drop_drop_top {s : State} (hs : s.still) : s.drop.drop.top = s.stackWord 2 := by
  rw [drop_top (still_drop hs), stackWord_drop hs]

theorem drop_drop_still {s : State} (hs : s.still) : s.drop.drop = s.setSp (s.regs.sp + 4) := by
  rw [drop_still (still_drop hs), drop_still hs, State.setSp_regs, BitVec.add_assoc]
  rfl

/-! ## Pushes -/

theorem push_eq_write16 (s : State) (v : Word) :
    s.push v = (s.setSp (s.regs.sp - 2)).write16 s.regs.ss (s.regs.sp - 2) v := rfl

theorem push_memOk {s : State} (hs : s.still) (hm : s.memOk = true) (v : Word) : (s.push v).memOk = true := by
  obtain ⟨-, -, -, hafter⟩ := push_frame hs v
  exact (hafter hm).1

theorem push_env {s : State} (hs : s.still) (v : Word) : (s.push v).env = s.env := by
  obtain ⟨hframe, -⟩ := push_frame hs v
  rw [hframe]

theorem still_push {s : State} (hs : s.still) (v : Word) : (s.push v).still :=
  (congrArg Env.bus (push_env hs v)).trans hs

/-- The word pushed is the top. -/
theorem stackWord_push_zero {s : State} (hs : s.still) (hm : s.memOk = true) (v : Word) :
    (s.push v).stackWord 0 = v := by
  obtain ⟨-, -, -, hafter⟩ := push_frame hs v
  rw [← top_eq_stackWord]
  exact (hafter hm).2

/-- The words on the stack before a push are below the word pushed, as far as the segment does not wrap round to it. -/
theorem stackWord_push_succ {s : State} (hs : s.still) (hm : s.memOk = true) (v : Word) {k : Nat} (hk : k < 32767) :
    (s.push v).stackWord (k + 1) = s.stackWord k := by
  have hs' : (s.setSp (s.regs.sp - 2)).still := hs
  have hstores := stores_write16 hs' s.regs.ss (s.regs.sp - 2) v
  have hplace : s.regs.sp - 2 + BitVec.ofNat 16 (2 * (k + 1)) = s.regs.sp + BitVec.ofNat 16 (2 * k) := by
    rw [Nat.mul_succ, Nat.add_comm, BitVec.ofNat_add, ← BitVec.add_assoc]
    exact congrArg (· + _) (BitVec.sub_add_cancel s.regs.sp 2)
  have houtside (j : Nat) (hj : j < 2) : phys s.cfg s.regs.ss (s.regs.sp + BitVec.ofNat 16 (2 * k) +
      BitVec.ofNat 16 j) ∉ bytesAt s.cfg s.regs.ss (s.regs.sp - 2#16) 2 := by
    apply not_mem_bytesAt (State.memOk_bits hm) _ (by omega)
    intro i hi
    have hsp := s.regs.sp.isLt
    simp only [BitVec.toNat_add, BitVec.toNat_sub, BitVec.toNat_ofNat, Nat.reducePow]
    omega
  have hlow : phys s.cfg s.regs.ss (s.regs.sp + BitVec.ofNat 16 (2 * k)) ∉
      bytesAt s.cfg s.regs.ss (s.regs.sp - 2#16) 2 := by
    have h := houtside 0 (by omega)
    rwa [BitVec.add_zero] at h
  rw [stackWord_still (still_push hs v), State.push_regs, hplace, stackWord_still hs]
  exact (hstores.read16 hs' hlow (houtside 1 (by omega))).trans (read16_congr hs hs' rfl rfl _ _)

end Sys2Proof.Machine
end


section
/-! SUPPORT. Jumps, loops, returns and calls (44_control_transfer). -/

namespace Sys2Proof.Machine

/-! ## Transfers that store nothing -/

/-- A meaning that ends in other registers and flags, with what was fetched ahead discarded. -/
theorem jumps_update {i : Instr} {s : State} {g : Regs} {f : Flags}
    (hi : exec i s = .next ({ s with regs := g, flags := f }.discardPrefetch)) : Jumps i s g f :=
  ⟨_, hi ▸ effect_update s.discardPrefetch g f s.draws⟩

/-- A displacement in the code segment counts from the next instruction, with sign (R351). -/
theorem jump_eq_goTo_ofInt (s : State) (d : Word) :
    s.jump d = s.goTo (BitVec.ofInt 16 (s.regs.ip.toNat + d.toInt)) := by
  rw [State.jump, BitVec.ofInt_add, BitVec.ofInt_natCast, ← ofNat_toNat_word, BitVec.ofInt_toInt]

theorem jump_sext16 (s : State) (b : Byte) :
    s.jump (sext16 b) = s.goTo (BitVec.ofInt 16 (s.regs.ip.toNat + b.toInt)) := by
  rw [jump_eq_goTo_ofInt, sext16, BitVec.toInt_signExtend_of_le (by omega)]

theorem sub_one_eq_ofInt (v : Word) : v - 1 = BitVec.ofInt 16 ((v.toNat : Int) - 1) := by
  rw [Int.sub_eq_add_neg, BitVec.ofInt_add, BitVec.ofInt_natCast, ← ofNat_toNat_word, BitVec.sub_eq_add_neg]
  rfl

section
variable {i : Instr} {s : State} {d : Byte} {c : Bool} (hi : exec i s = .next (s.loopIf c d))
include hi

/-- LOOP, LOOPE and LOOPNE with a condition that holds, and CX not counted down to zero. -/
theorem jumps_loopIf (hcx : s.regs.cx ≠ 1) (hc : c = true) : Jumps i s { s.regs with
    cx := BitVec.ofInt 16 ((s.regs.cx.toNat : Int) - 1)
    ip := BitVec.ofInt 16 (s.regs.ip.toNat + d.toInt) } s.flags := by
  have htaken : (decide (s.regs.cx - 1 ≠ 0) && c) = true := by
    rw [hc, Bool.and_true, decide_eq_true_iff]
    exact mt sub_eq_zero.1 hcx
  apply jumps_update
  rw [hi, State.loopIf, State.jumpIf, if_pos htaken, jump_sext16, sub_one_eq_ofInt]
  rfl

theorem changes_loopIf (hstop : s.regs.cx = 1 ∨ c = false) : Changes i s { s.regs with
    cx := BitVec.ofInt 16 ((s.regs.cx.toNat : Int) - 1) } s.flags := by
  have hstays : (decide (s.regs.cx - 1 ≠ 0) && c) = false := by
    rcases hstop with hcx | hc
    · rw [hcx]; rfl
    · rw [hc, Bool.and_false]
  apply changes_update
  rw [hi, State.loopIf, State.jumpIf, hstays, sub_one_eq_ofInt]
  rfl

end

/-- Settles O51: JCXZ is a conditional jump on CX, and the loops are one operation with three conditions. -/
theorem loopsCountDown : Obligations.LoopsCountDown := by
  unfold Obligations.LoopsCountDown
  intro s b target
  refine ⟨fun h => jumps_jumpIf rfl (decide_eq_true h), fun h => jumpIf_not_taken rfl (decide_eq_false h), ?loops⟩
  exact List.forall_mem_cons.2 ⟨⟨jumps_loopIf rfl, changes_loopIf rfl⟩,
    List.forall_mem_cons.2 ⟨⟨jumps_loopIf rfl, changes_loopIf rfl⟩,
      List.forall_mem_singleton.2 ⟨jumps_loopIf rfl, changes_loopIf rfl⟩⟩⟩

/-! ## RET and JMP -/

section
variable {s : State} (hs : s.still)
include hs

theorem execRet_still : execRet s = .next
    ({ s with regs := { s.regs with ip := s.top, sp := s.regs.sp + 2 } }.discardPrefetch) := by
  rw [execRet, drop_still hs]
  rfl

theorem execRetPop_still (n : Word) : execRetPop n s = .next
    ({ s with regs := { s.regs with ip := s.top, sp := s.regs.sp + 2 + n } }.discardPrefetch) := by
  rw [execRetPop, drop_still hs]
  rfl

theorem execRetFar_still : execRetFar s = .next
    ({ s with regs := { s.regs with ip := s.top, cs := s.stackWord 1, sp := s.regs.sp + 4 } }.discardPrefetch) := by
  rw [execRetFar, drop_top hs, drop_drop_still hs]
  rfl

theorem execRetFarPop_still (n : Word) : execRetFarPop n s = .next
    ({ s with regs := { s.regs with
        ip := s.top, cs := s.stackWord 1, sp := s.regs.sp + 4 + n } }.discardPrefetch) := by
  rw [execRetFarPop, drop_top hs, drop_drop_still hs]
  rfl

theorem execJmpInd_still (rm : Rm) : execJmpInd rm s = .next (s.goTo (s.rmRead .word rm)) := by
  rw [execJmpInd, rmAfter_still hs]

theorem execJmpFarInd_still {rm : Rm} {seg off : Word} (hp : s.place rm = .mem seg off) :
    execJmpFarInd rm s = .next (s.goFar (s.read16 seg (off + 2)) (s.read16 seg off)) := by
  rw [execJmpFarInd, withMem_mem hp, accesses_still hs, pointerSegment_still hs]
  rfl

end

/-- Settles O49: each form is one update of the registers; a return takes the first two words of the stack. -/
theorem returnAndJump : Obligations.ReturnAndJump := by
  unfold Obligations.ReturnAndJump
  intro s rm b d n o g seg off hs word
  have hip : s.top = word 0 := top_eq_stackWord s
  have hcs : s.stackWord 1 = word 2 := stackWord_still hs 1
  rw [← hip, ← hcs]
  exact ⟨jumps_update (execRet_still hs), jumps_update (execRetPop_still hs n),
    jumps_update (execRetFar_still hs), jumps_update (execRetFarPop_still hs n),
    jumps_update (congrArg Host.Outcome.next (jump_eq_goTo_ofInt s d)),
    jumps_update (congrArg Host.Outcome.next (jump_sext16 s b)), jumps_update rfl,
    jumps_update (execJmpInd_still hs rm), fun hp => jumps_update (execJmpFarInd_still hs hp)⟩

/-! ## CALL -/

/-- A meaning that ends in a push and a transfer in the code segment. -/
theorem calls_goTo {i : Instr} {s : State} {v target : Word} (hs : s.still) (hm : s.memOk = true)
    (hi : exec i s = .next ((s.push v).goTo target)) : Calls i s { s.regs with ip := target } v := by
  obtain ⟨hframe, hsame, -⟩ := push_frame hs v
  have hpushed := still_push hs v
  have hgone : ((s.push v).goTo target).still := hpushed
  refine ⟨(s.push v).goTo target, ⟨hi, ?frame, hsame, [], rfl, by simp⟩, ?word, rfl⟩
  case frame => rw [hframe]; rfl
  case word => rw [read16_congr hpushed hgone rfl rfl, read16_push hs hm]

theorem execCallNear_eq (s : State) (d : Word) : execCallNear d s =
    .next ((s.push s.regs.ip).goTo (BitVec.ofNat 16 (s.regs.ip.toNat + d.toNat))) := by
  rw [execCallNear, State.jump, State.push_regs, ← add_eq_ofNat]

theorem execCallInd_still {s : State} (hs : s.still) (rm : Rm) :
    execCallInd rm s = .next ((s.push s.regs.ip).goTo (s.rmRead .word rm)) := by
  rw [execCallInd, rmAfter_still hs]

theorem execCallFarInd_still {s : State} (hs : s.still) {rm : Rm} {seg off : Word} (hp : s.place rm = .mem seg off) :
    execCallFarInd rm s = .next (s.farCall (s.read16 seg (off + 2)) (s.read16 seg off)) := by
  rw [execCallFarInd, withMem_mem hp, accesses_still hs, pointerSegment_still hs]
  rfl

/-- SP has no part in a write of a word. -/
theorem write16_setSp {s : State} (hs : s.still) (x seg off v : Word) :
    (s.write16 seg off v).setSp x = (s.setSp x).write16 seg off v := by
  have hs' : (s.setSp x).still := hs
  have hlow := (stores_write8 hs seg off (lowByte v)).still hs
  have hlow' := (stores_write8 hs' seg off (lowByte v)).still hs'
  rw [State.write16, State.write16, write8_still hlow, write8_still hlow', write8_still hs, write8_still hs']
  rfl

theorem sub_two_sub_two (x : Word) : x - 2 - 2 = x - 4 := BitVec.sub_sub x 2 2

theorem sub_four_add_two (x : Word) : x - 4 + 2 = x - 2 := by
  rw [← sub_two_sub_two, BitVec.sub_add_cancel]

/-- Two pushes are two writes with SP four lower. -/
theorem stores_push_push {s : State} (hs : s.still) (v u : Word) :
    Stores (s.setSp (s.regs.sp - 4)) ((s.push v).push u)
      (bytesAt s.cfg s.regs.ss (s.regs.sp - 2) 2 ++ bytesAt s.cfg s.regs.ss (s.regs.sp - 4) 2) := by
  have hs' : (s.setSp (s.regs.sp - 4)).still := hs
  have hpush : (s.push v).setSp (s.regs.sp - 4) =
      (s.setSp (s.regs.sp - 4)).write16 s.regs.ss (s.regs.sp - 2) v :=
    write16_setSp (s := s.setSp (s.regs.sp - 2)) hs _ _ _ v
  have hupper := stores_write16 hs' s.regs.ss (s.regs.sp - 2) v
  have hlower := stores_write16 (hupper.still hs') s.regs.ss (s.regs.sp - 4) u
  rw [hupper.cfg] at hlower
  rw [push_eq_write16 (s.push v), State.push_regs, sub_two_sub_two, hpush]
  exact hupper.trans hlower

/-- What two pushes have put on the stack. -/
theorem read16_push_push {s : State} (hs : s.still) (hm : s.memOk = true) (v u : Word) :
    ((s.push v).push u).read16 s.regs.ss (s.regs.sp - 2) = v ∧
      ((s.push v).push u).read16 s.regs.ss (s.regs.sp - 4) = u := by
  have hs' := still_push hs v
  have hm' := push_memOk hs hm v
  have hfirst : ((s.push v).push u).stackWord 1 = v :=
    (stackWord_push_succ hs' hm' u (by omega)).trans (stackWord_push_zero hs hm v)
  have hsecond := read16_push hs' hm' u
  rw [stackWord_still (still_push hs' u), State.push_regs, State.push_regs, sub_two_sub_two] at hfirst
  rw [State.push_regs, sub_two_sub_two] at hsecond
  exact ⟨sub_four_add_two s.regs.sp ▸ hfirst, hsecond⟩

/-- A meaning that ends in a far call. -/
theorem callsFar_farCall {i : Instr} {s : State} {seg off : Word} (hs : s.still) (hm : s.memOk = true)
    (hi : exec i s = .next (s.farCall seg off)) :
    CallsFar i s { s.regs with cs := seg, ip := off } s.regs.cs s.regs.ip := by
  have hstores := stores_push_push hs s.regs.cs s.regs.ip
  have hbytes : bytesAt s.cfg s.regs.ss (s.regs.sp - 4) 4 =
      bytesAt s.cfg s.regs.ss (s.regs.sp - 4) 2 ++ bytesAt s.cfg s.regs.ss (s.regs.sp - 2) 2 :=
    sub_four_add_two s.regs.sp ▸ bytesAt_append s.cfg s.regs.ss (s.regs.sp - 4) 2 2
  have hpushed := still_push (still_push hs s.regs.cs) s.regs.ip
  have hgone : (s.farCall seg off).still := hpushed
  obtain ⟨hcs, hip⟩ := read16_push_push hs hm s.regs.cs s.regs.ip
  refine ⟨s.farCall seg off, ⟨hi, ?frame, fun a ha => hstores.same a ?outside, [], rfl, by simp⟩, ?cs, ?ip, rfl⟩
  case frame => rw [State.farCall, hstores.frame]; rfl
  case outside => rwa [hbytes, List.mem_append, or_comm, ← List.mem_append] at ha
  case cs => rw [read16_congr hpushed hgone rfl rfl, hcs]
  case ip => rw [read16_congr hpushed hgone rfl rfl, hip]

/-- Settles O48: a near call is one push and a transfer, a far call two. -/
theorem callPushesReturnAddress : Obligations.CallPushesReturnAddress := by
  unfold Obligations.CallPushesReturnAddress
  intro s rm d o g seg off hs hm
  exact ⟨calls_goTo hs hm (execCallNear_eq s d), calls_goTo hs hm (execCallInd_still hs rm),
    callsFar_farCall hs hm rfl, fun hp => callsFar_farCall hs hm (execCallFarInd_still hs hp)⟩

end Sys2Proof.Machine
end


section
/-! SUPPORT. The software interrupts, and the return from an interrupt (R372 to R375, R520). -/

namespace Sys2Proof.Machine

/-- Settles O16: each is the one interrupt operation, INTO where OF says so. -/
theorem softwareInterrupts : Obligations.SoftwareInterrupts := by
  unfold Obligations.SoftwareInterrupts
  intro s n
  have hinto : exec .into s = .next (if s.flags.OF then s.interrupt 4 s.regs.ip else s) := rfl
  refine ⟨rfl, rfl, fun hof => ?taken, fun hof => ?passed⟩
  case taken => rw [hinto, hof, if_pos rfl]
  case passed => rw [hinto, hof, if_neg Bool.false_ne_true]

/-- IRET takes the first three words of the stack. -/
theorem interruptReturn_still {s : State} (hs : s.still) : s.interruptReturn = { s with
    regs := { s.regs with sp := s.regs.sp + 6, ip := s.stackWord 0, cs := s.stackWord 1 }
    flags := Flags.ofWord (s.stackWord 2) }.discardPrefetch := by
  have hsp : s.drop.drop.drop = s.setSp (s.regs.sp + 6) := by
    rw [drop_drop_still (still_drop hs), drop_still hs, State.setSp_regs, BitVec.add_assoc]
    rfl
  rw [State.interruptReturn, drop_drop_top hs, drop_top hs, top_eq_stackWord, hsp]
  rfl

/-! ## The three words an interrupt leaves on the stack -/

/-- The state in which FLAGS has been pushed, and IF and TF cleared (R505). -/
def State.flagsPushed (s : State) : State :=
  (s.push s.flagsImage).setFlags { (s.push s.flagsImage).flags with IF := false, TF := false }

/-- The state in which CS and the saved IP have been pushed after FLAGS (R505). -/
def State.entryPushed (s : State) (r : Word) : State := (s.flagsPushed.push s.flagsPushed.regs.cs).push r

theorem flagsPushed_regs (s : State) : s.flagsPushed.regs = { s.regs with sp := s.regs.sp - 2 } := State.push_regs s _

theorem entryPushed_regs (s : State) (r : Word) : (s.entryPushed r).regs = { s.regs with sp := s.regs.sp - 6 } := by
  have hsp : s.regs.sp - 2 - 2 - 2 = s.regs.sp - 6 := by rw [BitVec.sub_sub, BitVec.sub_sub]; rfl
  rw [State.entryPushed, State.push_regs, State.push_regs, flagsPushed_regs, hsp]

section
variable {s : State} (hs : s.still)
include hs

theorem flagsPushed_env : s.flagsPushed.env = s.env := push_env hs s.flagsImage

theorem still_flagsPushed : s.flagsPushed.still := still_push hs s.flagsImage

theorem entryPushed_env (r : Word) : (s.entryPushed r).env = s.env := by
  have hpushed := still_push (still_flagsPushed hs) s.flagsPushed.regs.cs
  rw [State.entryPushed, push_env hpushed, push_env (still_flagsPushed hs), flagsPushed_env hs]

theorem still_entryPushed (r : Word) : (s.entryPushed r).still := (congrArg Env.bus (entryPushed_env hs r)).trans hs

/-- The entry reads the vector between the pushes, and then changes CS, IP and hidden state only. -/
theorem interrupt_still (n : Byte) (r : Word) : ∃ seg off,
    s.interrupt n r = (((s.entryPushed r).goFar seg off).setRun .running).setInhibit false := by
  have hpushed := still_push (still_flagsPushed hs) s.flagsPushed.regs.cs
  rw [State.interrupt, ← State.flagsPushed, accesses_still hpushed, ← State.entryPushed,
    accesses_still (still_entryPushed hs r)]
  exact ⟨_, _, rfl⟩

theorem entryPushed_stackWords (hm : s.memOk = true) (r : Word) :
    (s.entryPushed r).stackWord 0 = r ∧ (s.entryPushed r).stackWord 1 = s.regs.cs ∧
      (s.entryPushed r).stackWord 2 = s.flagsImage := by
  have hs1 := still_flagsPushed hs
  have hm1 : s.flagsPushed.memOk = true := push_memOk hs hm s.flagsImage
  have hs2 := still_push hs1 s.flagsPushed.regs.cs
  have hm2 := push_memOk hs1 hm1 s.flagsPushed.regs.cs
  have hcs : s.flagsPushed.regs.cs = s.regs.cs := by rw [flagsPushed_regs]
  refine ⟨stackWord_push_zero hs2 hm2 r, ?cs, ?flags⟩
  case cs =>
    rw [State.entryPushed, stackWord_push_succ hs2 hm2 r (by omega), stackWord_push_zero hs1 hm1, hcs]
  case flags =>
    rw [State.entryPushed, stackWord_push_succ hs2 hm2 r (by omega), stackWord_push_succ hs1 hm1 _ (by omega),
      State.flagsPushed, stackWord_setFlags (still_push hs _), stackWord_push_zero hs hm]

end

/-- IRET undoes an interrupt: the three words are what it pops, and nothing else of the state was lost. -/
theorem interruptReturn_interrupt {s : State} (hs : s.still) (hm : s.memOk = true) (n : Byte) (r : Word) :
    (s.interrupt n r).interruptReturn = { s with
      regs := { s.regs with ip := r }
      ctl := { s.ctl with run := .running, inhibit := false, stale := [] }
      mem := (s.interrupt n r).mem } := by
  obtain ⟨hfpu, hio, hcfg, hdraws, -⟩ := interrupt_frame s n r
  have hctl := interrupt_ctl s n r
  obtain ⟨seg, off, ht⟩ := interrupt_still hs n r
  have henv : (s.interrupt n r).env = s.env := by rw [ht]; exact entryPushed_env hs r
  have hstill : (s.interrupt n r).still := (congrArg Env.bus henv).trans hs
  have hregs : (s.interrupt n r).regs = { s.regs with sp := s.regs.sp - 6, cs := seg, ip := off } := by
    rw [ht]; simp [entryPushed_regs]
  have hwords (k : Nat) : (s.interrupt n r).stackWord k = (s.entryPushed r).stackWord k := by
    rw [ht] at hstill ⊢
    exact stackWord_congr (still_entryPushed hs r) hstill rfl rfl rfl rfl k
  obtain ⟨hip, hcs, hflags⟩ := entryPushed_stackWords hs hm r
  rw [interruptReturn_still hstill, hwords, hwords, hwords, hip, hcs, hflags, State.flagsImage, ofWord_image,
    State.discardPrefetch, hregs, hctl, henv, hfpu, hio, hcfg, hdraws, BitVec.sub_add_cancel]

/-- Settles O15: three pops, which are the three words that the entry has pushed. -/
theorem interruptReturn : Obligations.InterruptReturn := by
  unfold Obligations.InterruptReturn
  intro s n r hs
  refine ⟨jumps_update (congrArg Host.Outcome.next ?pops), fun hm =>
    congrArg Host.Outcome.next (interruptReturn_interrupt hs hm n r)⟩
  case pops =>
    have hip : s.stackWord 0 = s.read16 s.regs.ss s.regs.sp := (top_eq_stackWord s).symm
    have hcs : s.stackWord 1 = s.read16 s.regs.ss (s.regs.sp + 2) := stackWord_still hs 1
    have hflags : s.stackWord 2 = s.read16 s.regs.ss (s.regs.sp + 4) := stackWord_still hs 2
    rw [← hip, ← hcs, ← hflags]
    exact interruptReturn_still hs

end Sys2Proof.Machine
end


section
/-! SUPPORT. The processor control instructions that are no prefixes (45_processor_control). -/

namespace Sys2Proof.Machine

/-- ESC's word is thrown away, and where nothing comes from outside its read leaves no trace (R409). -/
theorem execEsc_still {s : State} (hs : s.still) (x1 x2 : Bits3) (rm : Rm) : execEsc x1 x2 rm s = .next s := by
  rw [execEsc, State.escRead, rmAfter_still hs]

theorem execWait_over {s : State} (h : s.waitOver = true) : execWait s = .next s := by
  rw [execWait, if_pos h]

theorem execWait_waits {s : State} (h : ¬s.waitOver = true) :
    execWait s = .next ((s.setRun (.waiting s.regs.ip)).setIp s.ctl.startIp) := by
  rw [execWait, if_neg h]

/-- Settles O52: six updates of one flag, NOP, ESC and HLT; WAIT by whether its condition holds. -/
theorem processorControl : Obligations.ProcessorControl := by
  unfold Obligations.ProcessorControl
  intro s x1 x2 rm hs
  refine ⟨changes_update rfl, changes_update rfl, changes_update rfl, changes_update rfl, changes_update rfl,
    changes_update rfl, rfl, execEsc_still hs x1 x2 rm, rfl, fun hover => ?passes, fun hbusy hfpu => ?waits⟩
  case passes => exact execWait_over ((waitOver_iff s).2 hover)
  case waits =>
    have hnot : ¬s.waitOver = true := by rw [waitOver_iff, hbusy, hfpu]; decide
    exact execWait_waits hnot

end Sys2Proof.Machine
end


section
/-! SUPPORT. The 8087 arithmetic and the 8087 loads (46_8087): what each shared operation of Machine/Fpu.lean answers,
and which instruction is which of them. -/

namespace Sys2Proof.Machine

/-! ## Refusals -/

/-- A meaning that comes to a refusal in the state `u`. -/
theorem refusedAt_refuse {i : Instr} {s u : State} {r : Refusal} (hi : exec i s = u.refuse r) :
    RefusedAt i s u r :=
  ⟨fun hrunning => hi.trans (refuse_running hrunning r), fun hreset => hi.trans (refuse_reset hreset r)⟩

/-- Two registers are read, and one of them is empty. -/
theorem withSt_withSt_none {s : State} {m n : Nat} (h : s.st m = none ∨ s.st n = none)
    (k : TReal → TReal → Result) :
    (s.withSt m fun x => s.withSt n fun y => k x y) = s.refuse .fpuStackEmpty := by
  cases hm : s.st m with
  | none => rw [withSt_none hm]
  | some x =>
    have hn : s.st n = none := h.resolve_left (by rw [hm]; exact Option.some_ne_none x)
    rw [withSt_some hm, withSt_none hn]

theorem st_accesses (s : State) (k n : Nat) : (s.accesses k).st n = s.st n := by
  rw [State.st, State.st, State.accesses_fpu]

/-- A full stack has an occupied register at its bottom (R420; log 21). -/
theorem getLast?_ne_of_full {st : List (Option TReal)} (h : ∀ e ∈ st, e ≠ none) : st.getLast? ≠ some none :=
  fun hlast => h none (List.mem_of_getLast? hlast) rfl

/-! ## Register operands -/

section
variable {s : State} {x y : TReal} (f : TReal → TReal → TReal)

theorem stArith_some {dest src : Nat} (hx : s.st dest = some x) (hy : s.st src = some y) :
    s.stArith f dest src = .next { s with fpu := s.fpu.set dest (some (f x y)) } := by
  rw [State.stArith, withSt_some hx, withSt_some hy]
  rfl

theorem stArithPop_some (hx : s.st 1 = some x) (hy : s.st 0 = some y) :
    s.stArithPop f = .next { s with fpu := poppedStack (s.fpu.set 1 (some (f x y))) } := by
  rw [State.stArithPop, withSt_some hx, withSt_some hy]
  rfl

theorem stArith_empty {dest src : Nat} (h : s.st dest = none ∨ s.st src = none) :
    s.stArith f dest src = s.refuse .fpuStackEmpty := withSt_withSt_none h _

theorem stArithPop_empty (h : s.st 1 = none ∨ s.st 0 = none) :
    s.stArithPop f = s.refuse .fpuStackEmpty := withSt_withSt_none h _

end

/-! ## Memory operands -/

/-- The read of an operand of the statements' tables: its value, and the state after as many byte accesses as it has
bytes. -/
def operandRead (o : FpuOperand) : FpuRead := fun s seg off => (o.2 s seg off, s.accesses o.1)

section
variable {s : State} {rm : Rm} {seg off : Word} (hp : s.place rm = .mem seg off) (o : FpuOperand)
include hp

/-- The operand comes after the word that ESC reads (log 31), ST(0) after the operand. -/
theorem stArithMem_mem (f : TReal → TReal → TReal) : s.stArithMem f rm (operandRead o) =
    (s.accesses (2 + o.1)).withSt 0 fun x =>
      .next ((s.accesses (2 + o.1)).setSt 0 (f x (o.2 (s.accesses 2) seg off))) := by
  rw [State.stArithMem, withEscMem_mem hp, accesses_add]
  rfl

theorem stArithMem_some (f : TReal → TReal → TReal) {x : TReal} (hx : s.st 0 = some x) :
    s.stArithMem f rm (operandRead o) = .next { s.accesses (2 + o.1) with
      fpu := s.fpu.set 0 (some (f x (o.2 (s.accesses 2) seg off))) } := by
  rw [stArithMem_mem hp, withSt_some ((st_accesses s _ 0).trans hx), State.setSt, State.accesses_fpu]

theorem stArithMem_empty (f : TReal → TReal → TReal) (hx : s.st 0 = none) :
    s.stArithMem f rm (operandRead o) = (s.accesses (2 + o.1)).refuse .fpuStackEmpty := by
  rw [stArithMem_mem hp, withSt_none ((st_accesses s _ 0).trans hx)]

theorem stLoad_mem : s.stLoad rm (operandRead o) =
    (s.accesses (2 + o.1)).fpuPush (o.2 (s.accesses 2) seg off) := by
  rw [State.stLoad, withEscMem_mem hp, accesses_add]
  rfl

theorem stLoad_room (h : s.fpu.getLast? = some none) : s.stLoad rm (operandRead o) =
    .next { s.accesses (2 + o.1) with fpu := some (o.2 (s.accesses 2) seg off) :: s.fpu.dropLast } := by
  rw [stLoad_mem hp, fpuPush_room (by rwa [State.accesses_fpu]), State.accesses_fpu]

theorem stLoad_full (h : ∀ e ∈ s.fpu, e ≠ none) :
    s.stLoad rm (operandRead o) = (s.accesses (2 + o.1)).refuse .fpuStackFull := by
  have hlast : (s.accesses (2 + o.1)).fpu.getLast? ≠ some none := by
    rw [State.accesses_fpu]
    exact getLast?_ne_of_full h
  rw [stLoad_mem hp, fpuPush_full hlast]

end

/-! ## Which instruction is which operation -/

section
variable (s : State) (n : Bits3) (rm : Rm)

theorem exec_stArithTable : ∀ p ∈ stArithTable n, exec p.1 s = s.stArith p.2.1 p.2.2.1 p.2.2.2 := by
  simp only [stArithTable, List.forall_mem_cons, List.not_mem_nil, false_implies, implies_true, and_true]
  and_intros <;> rfl

theorem exec_stPopTable : ∀ p ∈ stPopTable, exec p.1 s = s.stArithPop p.2 := by
  simp only [stPopTable, List.forall_mem_cons, List.not_mem_nil, false_implies, implies_true, and_true]
  and_intros <;> rfl

theorem exec_stMemTable : ∀ p ∈ stMemTable rm, exec p.1 s = s.stArithMem p.2.1 rm (operandRead p.2.2) := by
  simp only [stMemTable, List.forall_mem_cons, List.not_mem_nil, false_implies, implies_true, and_true]
  and_intros <;> rfl

theorem exec_stLoadTable : ∀ p ∈ stLoadTable rm, exec p.1 s = s.stLoad rm (operandRead p.2) := by
  simp only [stLoadTable, List.forall_mem_cons, List.not_mem_nil, false_implies, implies_true, and_true]
  and_intros <;> rfl

theorem exec_fldSti : exec (.fldSti n) s = s.withSt n.bits.toNat s.fpuPush := rfl

end

/-! ## The statements -/

/-- Settles O58: each table is one shared operation, with its outcome for occupied and for empty registers. -/
theorem fpuArithmetic : Obligations.FpuArithmetic := by
  unfold Obligations.FpuArithmetic
  intro s n rm seg off x y
  refine ⟨fun p hmem => ?registers, fun p hmem => ?pop, fun hp p hmem => ?memory⟩
  case registers =>
    have hexec := exec_stArithTable s n p hmem
    exact ⟨fun hx hy => hexec.trans (stArith_some _ hx hy),
      fun hempty => refusedAt_refuse (hexec.trans (stArith_empty _ hempty))⟩
  case pop =>
    have hexec := exec_stPopTable s p hmem
    exact ⟨fun hx hy => hexec.trans (stArithPop_some _ hx hy),
      fun hempty => refusedAt_refuse (hexec.trans (stArithPop_empty _ hempty))⟩
  case memory =>
    have hexec := exec_stMemTable s rm p hmem
    exact ⟨fun hx => hexec.trans (stArithMem_some hp _ _ hx),
      fun hempty => refusedAt_refuse (hexec.trans (stArithMem_empty hp _ _ hempty))⟩

/-- Settles O59: the loads from memory are one operation; FLD ST(i) reads its register, then pushes. -/
theorem fpuLoadPushes : Obligations.FpuLoadPushes := by
  unfold Obligations.FpuLoadPushes
  intro s rm n seg off x
  refine ⟨fun hp p hmem => ?memory, fun hx hroom => ?push, fun hx hfull => refusedAt_refuse ?full,
    fun hempty => refusedAt_refuse ?empty⟩
  case memory =>
    have hexec := exec_stLoadTable s rm p hmem
    exact ⟨fun hroom => hexec.trans (stLoad_room hp _ hroom),
      fun hfull => refusedAt_refuse (hexec.trans (stLoad_full hp _ hfull))⟩
  case push => rw [exec_fldSti, withSt_some hx, fpuPush_room hroom]
  case full => rw [exec_fldSti, withSt_some hx, fpuPush_full (getLast?_ne_of_full hfull)]
  case empty => rw [exec_fldSti, withSt_none hempty]

end Sys2Proof.Machine
end


section
/-! SUPPORT. The 8087 stores (46_8087): one operation, which stores ST(0) at one of four widths and may pop. -/

namespace Sys2Proof.Machine

/-! ## A store to memory -/

/-- A store of ST(0) to memory, with or without a pop after it. -/
def State.stStoreThen (s : State) (rm : Rm) (pop : Bool) (store : FpuStore) : Result :=
  if pop then s.stStorePop rm store else s.stStore rm store

/-- The 8087 stack after a store. -/
def stackAfter (pop : Bool) (st : List (Option TReal)) : List (Option TReal) := if pop then poppedStack st else st

section
variable {s : State} {rm : Rm} {seg off : Word} (hp : s.place rm = .mem seg off) (pop : Bool)
include hp

theorem stStoreThen_mem (store : FpuStore) : s.stStoreThen rm pop store =
    (s.accesses 2).withSt 0 fun x => .next { store (s.accesses 2) seg off x with
      fpu := stackAfter pop (store (s.accesses 2) seg off x).fpu } := by
  cases pop with
  | false =>
    show s.stStore rm store = _
    rw [State.stStore, withEscMem_mem hp]
    rfl
  | true =>
    show s.stStorePop rm store = _
    rw [State.stStorePop, withEscMem_mem hp]
    rfl

theorem stStoreThen_some {store : FpuStore} {x : TReal} (hx : s.st 0 = some x)
    (hfpu : ∀ u : State, (store u seg off x).fpu = u.fpu) :
    s.stStoreThen rm pop store =
      .next { store (s.accesses 2) seg off x with fpu := stackAfter pop s.fpu } := by
  rw [stStoreThen_mem hp, withSt_some ((st_accesses s 2 0).trans hx), hfpu, State.accesses_fpu]

theorem stStoreThen_empty (store : FpuStore) (hx : s.st 0 = none) :
    s.stStoreThen rm pop store = (s.accesses 2).refuse .fpuStackEmpty := by
  rw [stStoreThen_mem hp, withSt_none ((st_accesses s 2 0).trans hx)]

end

/-! ## The tables of stores -/

/-- Where nothing comes from outside, what is read depends on memory and the configuration alone. -/
theorem ByteAccess.read_congr {n b : Nat} {read : State → Word → Word → BitVec b}
    {write : State → Word → Word → BitVec b → State} (hw : ByteAccess n read write) {s t : State} (hs : s.still)
    (ht : t.still) (hmem : t.mem = s.mem) (hcfg : t.cfg = s.cfg) (seg off : Word) : read t seg off = read s seg off := by
  refine eq_of_bytes hw.width fun k hk => ?_
  rw [hw.bytes ht _ _ _ hk, hw.bytes hs _ _ _ hk, read8_still ht, read8_still hs, hmem, hcfg]

/-- The instructions of the table store with `write` what the table says of ST(0), and pop where it says so. -/
def StoreTable (rm : Rm) {b : Nat} (write : State → Word → Word → BitVec b → State)
    (table : List (Instr × (TReal → BitVec b) × Bool)) : Prop :=
  ∀ s : State, ∀ p ∈ table, exec p.1 s = s.stStoreThen rm p.2.2 fun u seg off x => write u seg off (p.2.1 x)

section
variable (rm : Rm)

theorem storeTable_16 : StoreTable rm State.write16 (stStore16Table rm) := by
  intro s
  simp only [stStore16Table, List.forall_mem_cons, List.not_mem_nil, false_implies, implies_true, and_true]
  and_intros <;> rfl

theorem storeTable_32 : StoreTable rm State.write32 (stStore32Table rm) := by
  intro s
  simp only [stStore32Table, List.forall_mem_cons, List.not_mem_nil, false_implies, implies_true, and_true]
  and_intros <;> rfl

theorem storeTable_64 : StoreTable rm State.write64 (stStore64Table rm) := by
  intro s
  simp only [stStore64Table, List.forall_mem_cons, List.not_mem_nil, false_implies, implies_true, and_true]
  and_intros <;> rfl

theorem storeTable_80 : StoreTable rm State.write80 (stStore80Table rm) := by
  intro s
  simp only [stStore80Table, List.forall_mem_cons, List.not_mem_nil, false_implies, implies_true, and_true]
  and_intros <;> rfl

end

section
variable {s : State} {rm : Rm} {seg off : Word} {b : Nat} {write : State → Word → Word → BitVec b → State}
  {table : List (Instr × (TReal → BitVec b) × Bool)} (h : StoreTable rm write table)
  (hp : s.place rm = .mem seg off)
include h hp

theorem StoreTable.exec_eq (hfpu : ∀ (u : State) seg off v, (write u seg off v).fpu = u.fpu) {x : TReal}
    (hx : s.st 0 = some x) : ∀ p ∈ table, exec p.1 s =
      .next { write (s.accesses 2) seg off (p.2.1 x) with fpu := stackAfter p.2.2 s.fpu } :=
  fun p hmem => (h s p hmem).trans (stStoreThen_some hp p.2.2 hx fun u => hfpu u seg off _)

theorem StoreTable.refusedAt (hx : s.st 0 = none) :
    ∀ i ∈ table.map (·.1), RefusedAt i s (s.accesses 2) .fpuStackEmpty :=
  List.forall_mem_map.2 fun p hmem => refusedAt_refuse ((h s p hmem).trans (stStoreThen_empty hp p.2.2 _ hx))

/-- Where nothing comes from outside, the store is one access of the operand's bytes, and they read back. -/
theorem StoreTable.effect {n : Nat} {read : State → Word → Word → BitVec b} (hw : ByteAccess n read write)
    (hfpu : ∀ (u : State) seg off v, (write u seg off v).fpu = u.fpu) (hs : s.still) (hm : s.memOk = true)
    {x : TReal} (hx : s.st 0 = some x) : ∀ p ∈ table, ∃ t,
      FpuEffect (exec p.1 s) s (stackAfter p.2.2 s.fpu) (bytesAt s.cfg seg off n) t ∧
        read t seg off = p.2.1 x := by
  intro p hmem
  have hexec := h.exec_eq hp hfpu hx p hmem
  rw [accesses_still hs] at hexec
  have hstores := hw.stores hs seg off (p.2.1 x)
  have hstored : { write s seg off (p.2.1 x) with fpu := stackAfter p.2.2 s.fpu }.still := hstores.still hs
  refine ⟨_, ⟨hexec, ?frame, hstores.same, hstores.stale⟩, ?back⟩
  case frame => rw [hstores.frame]
  case back => exact (hw.read_congr (hstores.still hs) hstored rfl rfl seg off).trans (hw.readBack hs hm seg off _)

end

/-! ## A store to a register -/

theorem exec_fstSti (s : State) (n : Bits3) : exec (.fstSti n) s =
    s.withSt 0 fun x => s.ifSt n.bits.toNat (s.setSt n.bits.toNat x) := rfl

theorem exec_fstpSti (s : State) (n : Bits3) : exec (.fstpSti n) s =
    s.withSt 0 fun x => s.ifSt n.bits.toNat (s.setSt n.bits.toNat x).fpuPop := rfl

theorem ifSt_register {s : State} {k : Nat} (h : k < s.fpu.length) (t : State) : s.ifSt k t = .next t := by
  rw [State.ifSt, if_pos h]

theorem ifSt_noRegister {s : State} {k : Nat} (h : s.fpu.length ≤ k) (t : State) :
    s.ifSt k t = s.refuse .fpuNoRegister := by
  rw [State.ifSt, if_neg (Nat.not_lt.2 h)]

/-! ## The statement -/

/-- Settles O60: the four tables of stores to memory, each by its width, then the stores to a register. -/
theorem fpuStoreWrites : Obligations.FpuStoreWrites := by
  unfold Obligations.FpuStoreWrites
  intro s rm n seg off x after u
  refine ⟨fun hp hx => ?memory, fun hs hm hp hx => ?effect, fun hp hx => ?empty, fun hx hn => ?register,
    fun hx hn => ?noRegister, fun hx => ?emptyRegister⟩
  case memory =>
    exact ⟨(storeTable_16 rm).exec_eq hp State.write16_fpu hx, (storeTable_32 rm).exec_eq hp State.write32_fpu hx,
      (storeTable_64 rm).exec_eq hp State.write64_fpu hx, (storeTable_80 rm).exec_eq hp State.write80_fpu hx⟩
  case effect =>
    exact ⟨(storeTable_16 rm).effect hp byteAccess_two State.write16_fpu hs hm hx,
      (storeTable_32 rm).effect hp byteAccess_four State.write32_fpu hs hm hx,
      (storeTable_64 rm).effect hp byteAccess_eight State.write64_fpu hs hm hx,
      (storeTable_80 rm).effect hp byteAccess_ten State.write80_fpu hs hm hx⟩
  case empty =>
    simp only [List.forall_mem_append]
    exact ⟨⟨⟨(storeTable_16 rm).refusedAt hp hx, (storeTable_32 rm).refusedAt hp hx⟩,
      (storeTable_64 rm).refusedAt hp hx⟩, (storeTable_80 rm).refusedAt hp hx⟩
  case register =>
    rw [exec_fstSti, exec_fstpSti, withSt_some hx, withSt_some hx, ifSt_register hn, ifSt_register hn]
    exact ⟨rfl, rfl⟩
  case noRegister =>
    constructor <;> apply refusedAt_refuse
    · rw [exec_fstSti, withSt_some hx, ifSt_noRegister hn]
    · rw [exec_fstpSti, withSt_some hx, ifSt_noRegister hn]
  case emptyRegister =>
    constructor <;> apply refusedAt_refuse
    · rw [exec_fstSti, withSt_none hx]
    · rw [exec_fstpSti, withSt_none hx]

end Sys2Proof.Machine
end


section
/-! SUPPORT. An 8087 instruction changes the 8087 stack and memory only (R420): what an access to memory leaves alone,
and with it what every 8087 instruction leaves alone. -/

namespace Sys2Proof.Machine

/-! ## The parts of the state -/

/-- The state but for the 8087 stack, memory, what prefetch may hold, and what comes from outside between two
accesses. -/
def State.cpu (s : State) : State :=
  { s with fpu := [], mem := [], ctl := { s.ctl with stale := [] }, env := { s.env with bus := [], held := [] } }

theorem eq_of_cpu {s t : State} (h : t.cpu = s.cpu) : t = { s with
    fpu := t.fpu, mem := t.mem, ctl := { s.ctl with stale := t.ctl.stale }
    env := { s.env with bus := t.env.bus, held := t.env.held } } :=
  congrArg (fun u : State => { u with
    fpu := t.fpu, mem := t.mem, ctl := { u.ctl with stale := t.ctl.stale }
    env := { u.env with bus := t.env.bus, held := t.env.held } }) h

/-! ## Accesses to memory -/

section
variable (s : State)

theorem agentStores_cpu (l : List Host.Cell) : (s.agentStores l).cpu = s.cpu := by
  cases h : s.ctl.busLock with
  | true => rw [agentStores_locked h]; rfl
  | false => rw [agentStores_free h]; rfl

theorem access_cpu : s.access.cpu = s.cpu := by
  unfold State.access
  split
  · rfl
  · exact agentStores_cpu _ _
  · rfl

theorem accesses_cpu (n : Nat) : (s.accesses n).cpu = s.cpu := by
  induction n generalizing s with
  | zero => rfl
  | succ n ih => exact (ih _).trans (access_cpu s)

theorem rmAfter_cpu (w : Width) (rm : Rm) : (s.rmAfter w rm).cpu = s.cpu := by
  unfold State.rmAfter State.placeAfter
  split
  · rfl
  · exact accesses_cpu s _

theorem write8_cpu (seg off : Word) (v : Byte) : (s.write8 seg off v).cpu = s.cpu := by
  unfold State.write8
  split
  · rfl
  · exact access_cpu s

theorem write16_cpu (seg off v : Word) : (s.write16 seg off v).cpu = s.cpu :=
  (write8_cpu _ _ _ _).trans (write8_cpu s _ _ _)

theorem write32_cpu (seg off : Word) (v : BitVec 32) : (s.write32 seg off v).cpu = s.cpu :=
  (write16_cpu _ _ _ _).trans (write16_cpu s _ _ _)

theorem write64_cpu (seg off : Word) (v : BitVec 64) : (s.write64 seg off v).cpu = s.cpu :=
  (write32_cpu _ _ _ _).trans (write32_cpu s _ _ _)

theorem write80_cpu (seg off : Word) (v : BitVec 80) : (s.write80 seg off v).cpu = s.cpu :=
  (write16_cpu _ _ _ _).trans (write64_cpu s _ _ _)

theorem writeMem_cpu (seg off : Word) (w : Width) (v : BitVec w.bits) : (s.writeMem seg off w v).cpu = s.cpu := by
  cases w with
  | byte => exact write8_cpu s seg off v
  | word => exact write16_cpu s seg off v

end

/-! ## 8087 instructions -/

section
variable {s t : State}

theorem refuse_next {r : Refusal} (h : s.refuse r = .next t) : t = s := by
  unfold State.refuse at h
  split at h
  · cases h; rfl
  · cases h

/-- An effect that reads ST(i) happens, or a reset has come before it. -/
theorem withSt_next {n : Nat} {k : TReal → Result} (h : s.withSt n k = .next t) : t = s ∨ ∃ v, k v = .next t := by
  unfold State.withSt at h
  split at h
  · exact .inr ⟨_, h⟩
  · exact .inl (refuse_next h)

theorem ifSt_next {n : Nat} {u : State} (h : s.ifSt n u = .next t) : t = s ∨ t = u := by
  unfold State.ifSt at h
  split at h
  · cases h; exact .inr rfl
  · exact .inl (refuse_next h)

theorem fpuPush_cpu {v : TReal} (h : s.fpuPush v = .next t) : t.cpu = s.cpu := by
  unfold State.fpuPush at h
  split at h
  · rw [refuse_next h]
  · cases h; rfl

theorem withSt_cpu {n : Nat} {k : TReal → Result} (h : s.withSt n k = .next t)
    (hk : ∀ v, k v = .next t → t.cpu = s.cpu) : t.cpu = s.cpu := by
  rcases withSt_next h with rfl | ⟨v, hv⟩
  · rfl
  · exact hk v hv

theorem withEscMem_cpu {rm : Rm} {k : State → Word → Word → Result} (h : s.withEscMem rm k = .next t)
    (hk : ∀ u seg off, k u seg off = .next t → t.cpu = u.cpu) : t.cpu = s.cpu := by
  obtain ⟨seg, off, hnext⟩ := withMem_next h
  exact (hk _ seg off hnext).trans (rmAfter_cpu s .word rm)

theorem stArith_cpu {f : TReal → TReal → TReal} {dest src : Nat} (h : s.stArith f dest src = .next t) :
    t.cpu = s.cpu :=
  withSt_cpu h fun _ hnext => withSt_cpu hnext fun _ hset => by cases hset; rfl

theorem stArithPop_cpu {f : TReal → TReal → TReal} (h : s.stArithPop f = .next t) : t.cpu = s.cpu :=
  withSt_cpu h fun _ hnext => withSt_cpu hnext fun _ hset => by cases hset; rfl

variable {rm : Rm}

theorem stArithMem_cpu {f : TReal → TReal → TReal} {operand : FpuRead} (h : s.stArithMem f rm operand = .next t)
    (hread : ∀ u seg off, (operand u seg off).2.cpu = u.cpu) : t.cpu = s.cpu :=
  withEscMem_cpu h fun u seg off hnext =>
    (withSt_cpu hnext fun _ hset => by cases hset; rfl).trans (hread u seg off)

theorem stLoad_cpu {operand : FpuRead} (h : s.stLoad rm operand = .next t)
    (hread : ∀ u seg off, (operand u seg off).2.cpu = u.cpu) : t.cpu = s.cpu :=
  withEscMem_cpu h fun u seg off hnext => (fpuPush_cpu hnext).trans (hread u seg off)

theorem stStoreThen_cpu {pop : Bool} {store : FpuStore} (h : s.stStoreThen rm pop store = .next t)
    (hstore : ∀ u seg off x, (store u seg off x).cpu = u.cpu) : t.cpu = s.cpu := by
  cases pop with
  | false =>
    have hnext : s.stStore rm store = .next t := h
    exact withEscMem_cpu hnext fun u seg off hst => withSt_cpu hst fun x hset => by cases hset; exact hstore u seg off x
  | true =>
    have hnext : s.stStorePop rm store = .next t := h
    exact withEscMem_cpu hnext fun u seg off hst => withSt_cpu hst fun x hset => by cases hset; exact hstore u seg off x

/-- A store of one of the tables changes what its write changes, and the 8087 stack. -/
theorem StoreTable.cpu {b : Nat} {write : State → Word → Word → BitVec b → State}
    {table : List (Instr × (TReal → BitVec b) × Bool)} (htable : StoreTable rm write table)
    (hwrite : ∀ u seg off v, (write u seg off v).cpu = u.cpu) {i : Instr} (hi : i ∈ table.map (·.1))
    (h : exec i s = .next t) : t.cpu = s.cpu := by
  obtain ⟨p, hp, rfl⟩ := List.mem_map.1 hi
  rw [htable s p hp] at h
  exact stStoreThen_cpu h fun u seg off _ => hwrite u seg off _

/-- A copy of ST(0) to a register, with or without a pop, is a change of the stack (R435, R436). -/
theorem copySt_cpu {n : Nat} {copied : TReal → State} (h : (s.withSt 0 fun x => s.ifSt n (copied x)) = .next t)
    (hcopy : ∀ x, (copied x).cpu = s.cpu) : t.cpu = s.cpu := by
  refine withSt_cpu h fun x hnext => ?_
  rcases ifSt_next hnext with rfl | rfl
  · rfl
  · exact hcopy x

/-- An 8087 instruction changes the 8087 stack, memory and what prefetch may hold; its accesses take what comes from
outside between them (R420). -/
theorem exec_fpu8087_cpu {i : Instr} (hi : i.part = .fpu8087) (h : exec i s = .next t) : t.cpu = s.cpu := by
  cases i with
  | faddStSti _ | faddStiSt _ | fsubStSti _ | fsubStiSt _ | fmulStSti _ | fmulStiSt _ | fdivStSti _ | fdivStiSt _ =>
    exact stArith_cpu h
  | faddP | fsubP | fmulP | fdivP => exact stArithPop_cpu h
  | faddM32 _ | faddM64 _ | fsubM32 _ | fsubM64 _ | fmulM32 _ | fmulM64 _ | fdivM32 _ | fdivM64 _
  | fiaddM16 _ | fiaddM32 _ | fisubM16 _ | fisubM32 _ | fimulM16 _ | fimulM32 _ | fidivM16 _ | fidivM32 _ =>
    exact stArithMem_cpu h fun u _ _ => accesses_cpu u _
  | fldM32 _ | fldM64 _ | fldM80 _ | fildM16 _ | fildM32 _ | fildM64 _ | fbld _ =>
    exact stLoad_cpu h fun u _ _ => accesses_cpu u _
  | fldSti _ => exact withSt_cpu h fun _ hpush => fpuPush_cpu hpush
  | fstSti _ | fstpSti _ => exact copySt_cpu h fun _ => rfl
  | fistM16 rm | fistpM16 rm => exact (storeTable_16 rm).cpu write16_cpu (by simp [stStore16Table]) h
  | fstM32 rm | fistM32 rm | fstpM32 rm | fistpM32 rm =>
    exact (storeTable_32 rm).cpu write32_cpu (by simp [stStore32Table]) h
  | fstM64 rm | fstpM64 rm | fistpM64 rm => exact (storeTable_64 rm).cpu write64_cpu (by simp [stStore64Table]) h
  | fstpM80 rm | fbstp rm => exact (storeTable_80 rm).cpu write80_cpu (by simp [stStore80Table]) h
  | _ => cases hi

end

end Sys2Proof.Machine
end


section
/-! SUPPORT. What the shared operations of the other instructions leave alone: the 8087 stack, the requests and
inputs to come, and the ports (R47, R78, R420). `apart` does not see an update of the registers, the flags, the hidden
state or the count of draws, so a lemma about the accesses before it says the same of the state after it. -/

namespace Sys2Proof.Machine

/-! ## The parts of the state -/

/-- The 8087 stack, the record of the ports, and the environment but for what comes between two accesses. -/
def State.apart (s : State) : List (Option TReal) × List IoEvent × Env := (s.fpu, s.io, s.cpu.env)

/-- The parts of `apart` that a port instruction does not reach either: not the record of the ports, nor the answers
to come from them. -/
def State.apartPorts (s : State) : List (Option TReal) × Env := (s.fpu, { s.cpu.env with portIn := [] })

theorem apart_eq_iff {s t : State} :
    t.apart = s.apart ↔ t.fpu = s.fpu ∧ t.io = s.io ∧ t.cpu.env = s.cpu.env := by
  simp only [State.apart, Prod.mk.injEq]

theorem apartPorts_eq_iff {s t : State} : t.apartPorts = s.apartPorts ↔
    t.fpu = s.fpu ∧ ({ t.cpu.env with portIn := [] } : Env) = { s.cpu.env with portIn := [] } := by
  simp only [State.apartPorts, Prod.mk.injEq]

theorem apart_of_cpu {s t : State} (hcpu : t.cpu = s.cpu) (hfpu : t.fpu = s.fpu) : t.apart = s.apart :=
  apart_eq_iff.2 ⟨hfpu, congrArg (·.io) hcpu, congrArg (·.env) hcpu⟩

theorem apartPorts_of_apart {s t : State} (h : t.apart = s.apart) : t.apartPorts = s.apartPorts := by
  obtain ⟨hfpu, -, henv⟩ := apart_eq_iff.1 h
  exact apartPorts_eq_iff.2 ⟨hfpu, by rw [henv]⟩

/-! ## Accesses, interrupts and operand forms -/

section
variable (s : State)

theorem accesses_apart (n : Nat) : (s.accesses n).apart = s.apart :=
  apart_of_cpu (accesses_cpu s n) (s.accesses_fpu n)

theorem rmAfter_apart (w : Width) (rm : Rm) : (s.rmAfter w rm).apart = s.apart :=
  apart_of_cpu (rmAfter_cpu s w rm) (s.rmAfter_fpu w rm)

theorem write16_apart (seg off v : Word) : (s.write16 seg off v).apart = s.apart :=
  apart_of_cpu (write16_cpu s seg off v) (s.write16_fpu seg off v)

theorem writeMem_apart (seg off : Word) (w : Width) (v : BitVec w.bits) : (s.writeMem seg off w v).apart = s.apart :=
  apart_of_cpu (writeMem_cpu s seg off w v) (s.writeMem_fpu seg off w v)

theorem writePlace_apart (w : Width) (p : Place) (v : BitVec w.bits) : (s.writePlace w p v).apart = s.apart := by
  cases p with
  | reg n => rfl
  | mem seg off => exact writeMem_apart s seg off w v

theorem rmWrite_apart (w : Width) (rm : Rm) (v : BitVec w.bits) : (s.rmWrite w rm v).apart = s.apart :=
  writePlace_apart s w _ v

theorem push_apart (v : Word) : (s.push v).apart = s.apart := write16_apart _ _ _ v

theorem drop_apart : s.drop.apart = s.apart := accesses_apart s 2

theorem interrupt_apart (n : Byte) (r : Word) : (s.interrupt n r).apart = s.apart := by
  let u := (s.push s.flagsImage).setFlags { (s.push s.flagsImage).flags with IF := false, TF := false }
  let v := (u.push u.regs.cs).accesses 2
  calc (s.interrupt n r).apart
      _ = (v.push r).apart := accesses_apart (v.push r) 2
      _ = v.apart := push_apart v r
      _ = (u.push u.regs.cs).apart := accesses_apart _ 2
      _ = u.apart := push_apart u _
      _ = s.apart := push_apart s _

theorem divideInterrupt_apart : s.divideInterrupt.apart = s.apart := by
  unfold State.divideInterrupt
  split
  · exact interrupt_apart s 0 _
  · exact interrupt_apart s 0 _

theorem formRm_apart (d : Dir) (w : Width) (rm : Rm) (r : Bits3) {op : BinaryOp w}
    (hop : ∀ a b u, (op a b u).2.apart = u.apart) : (s.formRm d w rm r op).apart = s.apart := by
  cases d with
  | toRm => exact (rmWrite_apart _ w rm _).trans ((hop _ _ _).trans (rmAfter_apart s w rm))
  | toReg => exact (hop _ _ _).trans (rmAfter_apart s w rm)

theorem formImm_apart (w : Width) (rm : Rm) (imm : BitVec w.bits) {op : BinaryOp w}
    (hop : ∀ a b u, (op a b u).2.apart = u.apart) : (s.formImm w rm imm op).apart = s.apart :=
  (rmWrite_apart _ w rm _).trans ((hop _ _ _).trans (rmAfter_apart s w rm))

theorem flagsRm_apart (d : Dir) (w : Width) (rm : Rm) (r : Bits3) {op : BinaryOp w}
    (hop : ∀ a b u, (op a b u).2.apart = u.apart) : (s.flagsRm d w rm r op).apart = s.apart := by
  cases d with
  | toRm => exact (hop _ _ _).trans (rmAfter_apart s w rm)
  | toReg => exact (hop _ _ _).trans (rmAfter_apart s w rm)

theorem formUnary_apart (w : Width) (rm : Rm) {op : BitVec w.bits → State → BitVec w.bits × State}
    (hop : ∀ a u, (op a u).2.apart = u.apart) : (s.formUnary w rm op).apart = s.apart :=
  (rmWrite_apart _ w rm _).trans ((hop _ _).trans (rmAfter_apart s w rm))

theorem shift_apart (op : ShiftOp) (w : Width) (rm : Rm) (count : Nat) : (s.shift op w rm count).apart = s.apart := by
  unfold State.shift
  split
  · exact rmAfter_apart s w rm
  · exact (rmWrite_apart _ w rm _).trans (rmAfter_apart s w rm)

theorem doubleShift_apart (rm : Rm) (c : Nat) (result : Word × Bool) :
    (s.doubleShift rm c result).apart = s.apart := by
  unfold State.doubleShift
  split
  · rfl
  · split
    · exact rmWrite_apart s .word rm _
    · exact rmWrite_apart s .word rm _

theorem scan_apart (r : Bits3) (v : Word) (position : Nat) : (s.scan r v position).apart = s.apart := by
  unfold State.scan
  split
  · rfl
  · rfl

theorem changeBit_apart (rm : Rm) (position : Nat) (change : Word → Word → Word) :
    (s.changeBit rm position change).apart = s.apart :=
  (rmWrite_apart _ .word rm _).trans (rmAfter_apart s .word rm)

theorem jumpIf_apart (c : Bool) (disp : Byte) : (s.jumpIf c disp).apart = s.apart := by
  cases c with
  | true => rfl
  | false => rfl

/-- A repetition is its one operation, or nothing, with other registers and other hidden state (R339). -/
theorem repeated_eq (i : Instr) (compares : Bool) (once : State → State) : ∃ u g c, (u = s ∨ u = once s) ∧
    s.repeated i compares once = { u with regs := g, ctl := c } := by
  unfold State.repeated
  split
  · exact ⟨_, _, _, .inr rfl, rfl⟩
  · split
    · exact ⟨_, _, _, .inl rfl, rfl⟩
    · dsimp only
      split
      · exact ⟨_, _, _, .inr rfl, rfl⟩
      · split
        · exact ⟨_, _, _, .inr rfl, rfl⟩
        · exact ⟨_, _, _, .inr rfl, rfl⟩

theorem repeated_apart (i : Instr) (compares : Bool) {once : State → State} (h : (once s).apart = s.apart) :
    (s.repeated i compares once).apart = s.apart := by
  obtain ⟨u, g, c, rfl | rfl, heq⟩ := repeated_eq s i compares once
  · rw [heq]; rfl
  · rw [heq]; exact h

theorem repeated_apartPorts (i : Instr) (compares : Bool) {once : State → State}
    (h : (once s).apartPorts = s.apartPorts) : (s.repeated i compares once).apartPorts = s.apartPorts := by
  obtain ⟨u, g, c, rfl | rfl, heq⟩ := repeated_eq s i compares once
  · rw [heq]; rfl
  · rw [heq]; exact h

/-! ## Pushes of an operand -/

theorem pushMem_apart (rm : Rm) : (s.pushMem rm).apart = s.apart :=
  (push_apart _ _).trans (rmAfter_apart s .word rm)

end

end Sys2Proof.Machine
end


section
/-! SUPPORT. Every instruction that is none of the 8087's leaves the 8087 stack, the requests and the inputs to come
alone, and the ports too where it is no port instruction; with that, the statement. -/

namespace Sys2Proof.Machine

/-! ## Instructions of several forms -/

section
variable {s t : State}

theorem execMovRm_apart {d : Dir} {w : Width} {rm : Rm} {r : Bits3} (h : execMovRm d w rm r s = .next t) :
    t.apart = s.apart := by
  cases d with
  | toRm => cases h; exact rmWrite_apart s w rm _
  | toReg => cases h; exact rmAfter_apart s w rm

theorem execMovSegRm_apart {sr : SReg} {rm : Rm} (h : execMovSegRm sr rm s = .next t) : t.apart = s.apart := by
  unfold execMovSegRm at h
  split at h
  · cases h
  · cases h; exact rmAfter_apart s .word rm

theorem execMul_apart {w : Width} {rm : Rm} (h : execMul w rm s = .next t) : t.apart = s.apart := by
  cases w with
  | byte => cases h; exact rmAfter_apart s .byte rm
  | word => cases h; exact rmAfter_apart s .word rm

theorem execImul_apart {w : Width} {rm : Rm} (h : execImul w rm s = .next t) : t.apart = s.apart := by
  cases w with
  | byte => cases h; exact rmAfter_apart s .byte rm
  | word => cases h; exact rmAfter_apart s .word rm

/-- A division: the divide error where it fails, else the quotient and the remainder. -/
theorem division_apart {e q : State} {c : Prop} [Decidable c]
    (h : (if c then .next e else .next q : Result) = .next t) (he : e.apart = s.apart) (hq : q.apart = s.apart) :
    t.apart = s.apart := by
  split at h
  · cases h; exact he
  · cases h; exact hq

theorem execDiv_apart {w : Width} {rm : Rm} (h : execDiv w rm s = .next t) : t.apart = s.apart := by
  have hread := rmAfter_apart s w rm
  cases w with
  | byte => exact division_apart h ((divideInterrupt_apart _).trans hread) hread
  | word => exact division_apart h ((divideInterrupt_apart _).trans hread) hread

theorem execIdiv_apart {w : Width} {rm : Rm} (h : execIdiv w rm s = .next t) : t.apart = s.apart := by
  have hread := rmAfter_apart s w rm
  cases w with
  | byte => exact division_apart h ((divideInterrupt_apart _).trans hread) hread
  | word => exact division_apart h ((divideInterrupt_apart _).trans hread) hread

theorem execPushRm_apart {rm : Rm} (h : execPushRm rm s = .next t) : t.apart = s.apart := by
  cases rm with
  | reg r => cases h; exact push_apart s _
  | direct _ | base _ | disp8 _ _ | disp16 _ _ => cases h; exact pushMem_apart s _

theorem execPusha_apart (h : execPusha s = .next t) : t.apart = s.apart := by
  cases h
  simp only [push_apart]

theorem execInto_apart (h : execInto s = .next t) : t.apart = s.apart := by
  cases h
  split
  · exact interrupt_apart s 4 _
  · rfl

theorem execWait_apart (h : execWait s = .next t) : t.apart = s.apart := by
  cases h
  split
  · rfl
  · rfl

theorem exec_prefix_apart {i : Instr} (hi : isPrefix i = true) (h : exec i s = .next t) : t.apart = s.apart := by
  obtain ⟨p, rfl⟩ := exec_prefix hi h
  rfl

end

/-! ## The instructions that reach no port -/

/-- IN, OUT, INS and OUTS (R78). -/
def reachesPorts : Instr → Bool
  | .inFixed _ _ | .inDx _ | .outFixed _ _ | .outDx _ | .ins _ | .outs _ => true
  | _ => false

section
variable {i : Instr} {s t : State}

/-- An instruction that is none of the 8087's and reaches no port leaves both units and the environment alone. -/
theorem exec_apart (hfpu : i.part ≠ .fpu8087) (hports : reachesPorts i = false) (h : exec i s = .next t) :
    t.apart = s.apart := by
  cases i with
  -- Arithmetic and logic in the forms of R244.
  | addRm d w rm r | adcRm d w rm r | subRm d w rm r | sbbRm d w rm r | orRm d w rm r | andRm d w rm r
  | xorRm d w rm r => cases h; exact formRm_apart s d w rm r fun _ _ _ => rfl
  | addAcc _ _ | adcAcc _ _ | subAcc _ _ | sbbAcc _ _ | orAcc _ _ | andAcc _ _ | xorAcc _ _ | cmpAcc _ _
  | testAcc _ _ => cases h; rfl
  | addImm w rm imm | adcImm w rm imm | subImm w rm imm | sbbImm w rm imm | orImm w rm imm | andImm w rm imm
  | xorImm w rm imm => cases h; exact formImm_apart s w rm imm fun _ _ _ => rfl
  | addImmS rm _ | adcImmS rm _ | subImmS rm _ | sbbImmS rm _ =>
    cases h; exact formImm_apart s .word rm _ fun _ _ _ => rfl
  | cmpRm d w rm r => cases h; exact flagsRm_apart s d w rm r fun _ _ _ => rfl
  | cmpImm w rm _ | testRm w rm _ | testImm w rm _ => cases h; exact rmAfter_apart s w rm
  | cmpImmS rm _ => cases h; exact rmAfter_apart s .word rm
  | incReg _ | decReg _ => cases h; rfl
  | incRm w rm | decRm w rm | neg w rm => cases h; exact formUnary_apart s w rm fun _ _ => rfl
  | not w rm => cases h; exact (rmWrite_apart _ w rm _).trans (rmAfter_apart s w rm)
  | mul _ _ => exact execMul_apart h
  | imul _ _ => exact execImul_apart h
  | imul3 _ rm _ | imul3S _ rm _ => cases h; exact rmAfter_apart s .word rm
  | div _ _ => exact execDiv_apart h
  | idiv _ _ => exact execIdiv_apart h
  | daa | das | aaa | aas | aam | aad | cbw | cwd => cases h; rfl
  -- Shifts and rotates.
  | rol _ w rm | ror _ w rm | rcl _ w rm | rcr _ w rm | shl _ w rm | shr _ w rm | sar _ w rm =>
    cases h; exact shift_apart s _ w rm _
  | rolImm w rm _ | rorImm w rm _ | rclImm w rm _ | rcrImm w rm _ | shlImm w rm _ | shrImm w rm _ | sarImm w rm _ =>
    cases h; exact shift_apart s _ w rm _
  | shldImm rm _ _ | shrdImm rm _ _ | shldCl rm _ | shrdCl rm _ =>
    cases h; exact (doubleShift_apart _ rm _ _).trans (rmAfter_apart s .word rm)
  -- Bits and conditions.
  | bsf r rm | bsr r rm => cases h; exact (scan_apart _ r _ _).trans (rmAfter_apart s .word rm)
  | bt rm _ | btImm rm _ => cases h; exact rmAfter_apart s .word rm
  | bts rm _ | btr rm _ | btc rm _ | btsImm rm _ | btrImm rm _ | btcImm rm _ =>
    cases h; exact changeBit_apart s rm _ _
  | seto rm | setno rm | setb rm | setae rm | sete rm | setne rm | setbe rm | seta rm | sets rm | setns rm | setp rm
  | setnp rm | setl rm | setge rm | setle rm | setg rm => cases h; exact rmWrite_apart s .byte rm _
  -- Data transfer.
  | movRm _ _ _ _ => exact execMovRm_apart h
  | movSegRm _ _ => exact execMovSegRm_apart h
  | movRmSeg rm _ => cases h; exact rmWrite_apart s .word rm _
  | movRmImm w rm imm => cases h; exact rmWrite_apart s w rm imm
  | movMemAcc w _ => cases h; exact writeMem_apart s _ _ w _
  | movAccMem _ _ | xlat | popa => cases h; exact accesses_apart s _
  | movsx _ rm | movzx _ rm => cases h; exact rmAfter_apart s .byte rm
  | lea _ _ =>
    obtain ⟨seg, off, hnext⟩ := withMem_next h
    cases hnext; rfl
  | lds _ _ | les _ _ | jmpFarInd _ =>
    obtain ⟨seg, off, hnext⟩ := withMem_next h
    cases hnext; exact accesses_apart s 4
  | xchgRm w rm r => cases h; exact (rmWrite_apart _ w rm _).trans (rmAfter_apart (s.setBusLock true) w rm)
  | movRegImm _ _ _ | xchgAcc _ | lahf | sahf => cases h; rfl
  | pushEs | pushCs | pushSs | pushDs | pushReg _ | pushf | pushImm16 _ | pushImm8 _ => cases h; exact push_apart s _
  | pushRm _ => exact execPushRm_apart h
  | pusha => exact execPusha_apart h
  | popReg _ | popEs | popSs | popDs | popf => cases h; exact drop_apart s
  | popRm rm => cases h; exact (writePlace_apart _ .word _ _).trans (drop_apart s)
  -- String instructions.
  | movs w =>
    cases h
    exact repeated_apart s _ _ ((writeMem_apart (s.afterRead w) _ _ w _).trans (accesses_apart s _))
  | cmps w =>
    cases h
    exact repeated_apart s _ _ ((accesses_apart (s.afterRead w) _).trans (accesses_apart s _))
  | scas _ | lods _ => cases h; exact repeated_apart s _ _ (accesses_apart s _)
  | stos w => cases h; exact repeated_apart s _ _ (writeMem_apart s _ _ w _)
  -- Control transfer.
  | jo disp | jno disp | jb disp | jae disp | je disp | jne disp | jbe disp | ja disp | js disp | jns disp | jp disp
  | jnp disp | jl disp | jge disp | jle disp | jg disp | jcxz disp => cases h; exact jumpIf_apart s _ disp
  | loop disp | loope disp | loopne disp => cases h; exact jumpIf_apart (s.setCx (s.regs.cx - 1)) _ disp
  | jmpNear _ | jmpShort _ | jmpFar _ _ => cases h; rfl
  | jmpInd rm => cases h; exact rmAfter_apart s .word rm
  | callNear _ => cases h; exact push_apart s _
  | callInd rm => cases h; exact (push_apart _ _).trans (rmAfter_apart s .word rm)
  | callFar _ _ => cases h; exact (push_apart _ _).trans (push_apart s _)
  | callFarInd _ =>
    obtain ⟨seg, off, hnext⟩ := withMem_next h
    cases hnext
    exact (push_apart _ _).trans ((push_apart _ _).trans (accesses_apart s 4))
  | ret | retPop _ => cases h; exact drop_apart s
  | retFar | retFarPop _ => cases h; exact (drop_apart _).trans (drop_apart s)
  | int3 | intN _ => cases h; exact interrupt_apart s _ _
  | into => exact execInto_apart h
  | iret => cases h; exact (drop_apart _).trans ((drop_apart _).trans (drop_apart s))
  -- Processor control and the prefixes.
  | clc | stc | cmc | cld | std | cli | sti | nop | hlt => cases h; rfl
  | wait => exact execWait_apart h
  | esc _ _ rm => cases h; exact rmAfter_apart s .word rm
  | lock | rep | repne | segEs | segCs | segSs | segDs => exact exec_prefix_apart rfl h
  -- The port instructions, and the 8087's.
  | inFixed _ _ | inDx _ | outFixed _ _ | outDx _ | ins _ | outs _ => cases hports
  | _ => exact absurd rfl hfpu

/-! ## The port instructions -/

theorem portRead_apartPorts (s : State) (port : Word) : (s.portRead port).apartPorts = s.apartPorts := by
  unfold State.portRead
  split
  · rfl
  · have haccess := apartPorts_of_apart (accesses_apart s 1)
    exact haccess

theorem portWrite_apartPorts (s : State) (port : Word) (v : Byte) :
    (s.portWrite port v).apartPorts = s.apartPorts := by
  unfold State.portWrite
  split
  · rfl
  · have haccess := apartPorts_of_apart (accesses_apart s 1)
    exact haccess

theorem ioRead_apartPorts (s : State) (port : Word) (w : Width) : (s.ioRead port w).apartPorts = s.apartPorts := by
  cases w with
  | byte => exact portRead_apartPorts s port
  | word => exact (portRead_apartPorts _ _).trans (portRead_apartPorts s port)

theorem ioWrite_apartPorts (s : State) (port : Word) (w : Width) (v : BitVec w.bits) :
    (s.ioWrite port w v).apartPorts = s.apartPorts := by
  cases w with
  | byte => exact portWrite_apartPorts s port v
  | word => exact (portWrite_apartPorts _ _ _).trans (portWrite_apartPorts s port _)

/-- A port instruction leaves the 8087 stack, the requests and the inputs to come alone. -/
theorem exec_apartPorts (hports : reachesPorts i = true) (h : exec i s = .next t) :
    t.apartPorts = s.apartPorts := by
  cases i with
  | inFixed w _ | inDx w => cases h; exact ioRead_apartPorts s _ w
  | outFixed w _ | outDx w => cases h; exact ioWrite_apartPorts s _ w _
  | ins w =>
    cases h
    have hstored := writeMem_apart (s.ioRead s.regs.dx w) (s.ioRead s.regs.dx w).regs.es
      (s.ioRead s.regs.dx w).regs.di w (s.ioValue s.regs.dx w)
    exact repeated_apartPorts s _ _ ((apartPorts_of_apart hstored).trans (ioRead_apartPorts s _ w))
  | outs w =>
    cases h
    exact repeated_apartPorts s _ _
      ((ioWrite_apartPorts (s.afterRead w) _ w _).trans (apartPorts_of_apart (accesses_apart s _)))
  | _ => cases hports

end

/-! ## The statement -/

theorem env_of_portless {s t : State}
    (h : ({ t.cpu.env with portIn := [] } : Env) = { s.cpu.env with portIn := [] }) :
    t.env = { s.env with portIn := t.env.portIn, bus := t.env.bus, held := t.env.held } :=
  congrArg (fun e : Env => { e with portIn := t.env.portIn, bus := t.env.bus, held := t.env.held }) h

theorem env_of_cpu_env {s t : State} (h : t.cpu.env = s.cpu.env) :
    t.env = { s.env with portIn := t.env.portIn, bus := t.env.bus, held := t.env.held } ∧
      t.env.portIn = s.env.portIn :=
  ⟨env_of_portless (by rw [h]), congrArg (·.portIn) h⟩

theorem reachesPorts_cases {i : Instr} (h : reachesPorts i = true) :
    (∃ w p, i = .inFixed w p) ∨ (∃ w, i = .inDx w) ∨ (∃ w p, i = .outFixed w p) ∨ (∃ w, i = .outDx w) ∨
      (∃ w, i = .ins w) ∨ ∃ w, i = .outs w := by
  cases i with
  | inFixed _ _ | inDx _ | outFixed _ _ | outDx _ | ins _ | outs _ => simp
  | _ => cases h

/-- Settles O19: an 8087 instruction by `exec_fpu8087_cpu`, a port instruction by `exec_apartPorts`, every other one
by `exec_apart`. -/
theorem unitsApart : Obligations.UnitsApart := by
  unfold Obligations.UnitsApart
  intro i s t h
  by_cases hfpu : i.part = .fpu8087
  · have hcpu := exec_fpu8087_cpu hfpu h
    obtain ⟨henv, hportIn⟩ := env_of_cpu_env (congrArg (·.env) hcpu)
    exact ⟨fun _ => eq_of_cpu hcpu, absurd hfpu, henv, .inl ⟨congrArg (·.io) hcpu, hportIn⟩⟩
  · refine ⟨fun hi => absurd hi hfpu, ?_⟩
    cases hports : reachesPorts i with
    | true =>
      obtain ⟨hstack, henv⟩ := apartPorts_eq_iff.1 (exec_apartPorts hports h)
      exact ⟨fun _ => hstack, env_of_portless henv, .inr (reachesPorts_cases hports)⟩
    | false =>
      obtain ⟨hstack, hio, hcpu⟩ := apart_eq_iff.1 (exec_apart hfpu hports h)
      obtain ⟨henv, hportIn⟩ := env_of_cpu_env hcpu
      exact ⟨fun _ => hstack, henv, .inl ⟨hio, hportIn⟩⟩

end Sys2Proof.Machine
end


section
/-! SUPPORT. PUSHA and POPA (47_80286, R455, R456): several words pushed one after the other, and the eight that POPA
takes. -/

namespace Sys2Proof.Machine

/-! ## Several words pushed -/

/-- The state in which the words have been pushed, the last of the list first, so that its head is the top. -/
def State.pushAll (s : State) : List Word → State
  | [] => s
  | v :: vs => (s.pushAll vs).push v

/-- What stores to the listed addresses stores to addresses of a longer list. -/
theorem Stores.mono {s t : State} {l m : List Nat} (h : Stores s t l) (hsub : l ⊆ m) : Stores s t m where
  frame := h.frame
  same a ha := h.same a fun hl => ha (hsub hl)
  stale := by
    obtain ⟨x, hx, hmem⟩ := h.stale
    exact ⟨x, hx, fun c hc => ⟨hsub (hmem c hc).1, (hmem c hc).2⟩⟩
  wf := h.wf

/-- One word more, two bytes lower. -/
theorem sub_words_sub_two (x : Word) (n : Nat) :
    x - BitVec.ofNat 16 (2 * n) - 2 = x - BitVec.ofNat 16 (2 * (n + 1)) := by
  rw [BitVec.sub_sub, Nat.mul_succ, BitVec.ofNat_add]
  rfl

/-- The bytes of a stack, with one word more: that word's, then those of the words above it. -/
theorem bytesAt_sub_words (c : Config) (seg x : Word) (n : Nat) :
    bytesAt c seg (x - BitVec.ofNat 16 (2 * (n + 1))) (2 * (n + 1)) =
      bytesAt c seg (x - BitVec.ofNat 16 (2 * (n + 1))) 2 ++ bytesAt c seg (x - BitVec.ofNat 16 (2 * n)) (2 * n) := by
  have habove : x - BitVec.ofNat 16 (2 * (n + 1)) + BitVec.ofNat 16 2 = x - BitVec.ofNat 16 (2 * n) := by
    rw [← sub_words_sub_two]
    exact BitVec.sub_add_cancel _ 2
  rw [← habove, ← bytesAt_append, Nat.mul_succ, Nat.add_comm 2]

theorem pushAll_regs (s : State) (vs : List Word) :
    (s.pushAll vs).regs = { s.regs with sp := s.regs.sp - BitVec.ofNat 16 (2 * vs.length) } := by
  induction vs with
  | nil => exact congrArg (fun x => { s.regs with sp := x }) (BitVec.sub_zero s.regs.sp).symm
  | cons v vs ih =>
    rw [State.pushAll, State.push_regs, ih, List.length_cons, ← sub_words_sub_two]

section
variable {s : State} (hs : s.still)
include hs

/-- SP aside, a push is its store. -/
theorem stores_push_setSp (v x : Word) :
    Stores (s.setSp x) ((s.push v).setSp x) (bytesAt s.cfg s.regs.ss (s.regs.sp - 2) 2) := by
  have hs' : (s.setSp x).still := hs
  have hlowered : (s.setSp (s.regs.sp - 2)).still := hs
  rw [push_eq_write16, write16_setSp hlowered]
  exact stores_write16 hs' s.regs.ss (s.regs.sp - 2) v

theorem still_pushAll (vs : List Word) : (s.pushAll vs).still := by
  induction vs with
  | nil => exact hs
  | cons v vs ih => exact still_push ih v

theorem pushAll_memOk (hm : s.memOk = true) (vs : List Word) : (s.pushAll vs).memOk = true := by
  induction vs with
  | nil => exact hm
  | cons v vs ih => exact push_memOk (still_pushAll hs vs) ih v

/-- SP aside, several pushes are one store to the bytes from the new top up to the old one. -/
theorem stores_pushAll_setSp (vs : List Word) (x : Word) :
    Stores (s.setSp x) ((s.pushAll vs).setSp x)
      (bytesAt s.cfg s.regs.ss (s.regs.sp - BitVec.ofNat 16 (2 * vs.length)) (2 * vs.length)) := by
  induction vs with
  | nil => exact ⟨rfl, fun _ _ => rfl, ⟨[], rfl, by simp⟩, id⟩
  | cons v vs ih =>
    have hcfg : (s.pushAll vs).cfg = s.cfg := ih.cfg
    have hlast := stores_push_setSp (still_pushAll hs vs) v x
    rw [pushAll_regs, hcfg, sub_words_sub_two] at hlast
    refine (ih.trans hlast).mono ?_
    rw [List.length_cons, bytesAt_sub_words]
    exact List.append_subset.2 ⟨List.subset_append_right _ _, List.subset_append_left _ _⟩

/-- Several pushes are one store with SP already at the new top. -/
theorem stores_pushAll (vs : List Word) :
    Stores (s.setSp (s.regs.sp - BitVec.ofNat 16 (2 * vs.length))) (s.pushAll vs)
      (bytesAt s.cfg s.regs.ss (s.regs.sp - BitVec.ofNat 16 (2 * vs.length)) (2 * vs.length)) := by
  have hsp : (s.pushAll vs).regs.sp = s.regs.sp - BitVec.ofNat 16 (2 * vs.length) :=
    congrArg Regs.sp (pushAll_regs s vs)
  have hself : (s.pushAll vs).setSp (s.regs.sp - BitVec.ofNat 16 (2 * vs.length)) = s.pushAll vs := by
    rw [← hsp]
    rfl
  have hstores := stores_pushAll_setSp hs vs (s.regs.sp - BitVec.ofNat 16 (2 * vs.length))
  rwa [hself] at hstores

/-- Each word pushed is where its place in the list says, counted from the top. -/
theorem stackWord_pushAll (hm : s.memOk = true) {vs : List Word} (hlen : vs.length < 32768) {k : Nat}
    (hk : k < vs.length) : (s.pushAll vs).stackWord k = vs[k] := by
  induction vs generalizing k with
  | nil => exact absurd hk (Nat.not_lt_zero k)
  | cons v vs ih =>
    rw [List.length_cons] at hlen hk
    have hs' := still_pushAll hs vs
    have hm' := pushAll_memOk hs hm vs
    cases k with
    | zero => exact stackWord_push_zero hs' hm' v
    | succ k => exact (stackWord_push_succ hs' hm' v (by omega)).trans (ih (by omega) (by omega))

end

/-! ## PUSHA -/

/-- The words PUSHA leaves on the stack, the top first; SP is the original one (R456). -/
def Regs.pushaWords (g : Regs) : List Word := [g.di, g.si, g.bp, g.sp, g.bx, g.dx, g.cx, g.ax]

theorem pushaWords_length (g : Regs) : g.pushaWords.length = 8 := rfl

theorem execPusha_eq_pushAll (s : State) : execPusha s = .next (s.pushAll s.regs.pushaWords) := rfl

section
variable {s : State} (hs : s.still)
include hs

theorem pusha_effect : Effect (exec .pusha s) s { s.regs with sp := s.regs.sp - 16 } s.flags
    (bytesAt s.cfg s.regs.ss (s.regs.sp - 16) 16) (s.pushAll s.regs.pushaWords) := by
  have hstores := stores_pushAll hs s.regs.pushaWords
  refine ⟨execPusha_eq_pushAll s, ?frame, hstores.same, hstores.stale⟩
  case frame => rw [hstores.frame]; rfl

theorem stackWord_pusha (hm : s.memOk = true) {k : Nat} (hk : k < 8) :
    (s.pushAll s.regs.pushaWords).stackWord k = s.regs.pushaWords[k]'hk :=
  stackWord_pushAll hs hm (by rw [pushaWords_length]; omega) hk

/-- The same words by their distance from the original SP: sixteen bytes below it, and up. -/
theorem read16_pusha (hm : s.memOk = true) {k : Nat} (hk : k < 8) :
    (s.pushAll s.regs.pushaWords).read16 s.regs.ss (s.regs.sp + BitVec.ofNat 16 (65520 + 2 * k)) =
      s.regs.pushaWords[k]'hk := by
  have hplace : s.regs.sp - 16#16 + BitVec.ofNat 16 (2 * k) =
      s.regs.sp + BitVec.ofNat 16 (65520 + 2 * k) := by
    rw [BitVec.ofNat_add, ← BitVec.add_assoc, BitVec.sub_eq_add_neg]
    rfl
  rw [← stackWord_pusha hs hm hk, stackWord_still (still_pushAll hs _), pushAll_regs, ← hplace]
  rfl

/-! ## POPA -/

theorem execPopa_still : execPopa s = .next { s with regs := { s.regs with
    di := s.stackWord 0, si := s.stackWord 1, bp := s.stackWord 2, bx := s.stackWord 4
    dx := s.stackWord 5, cx := s.stackWord 6, ax := s.stackWord 7, sp := s.regs.sp + 16 } } := by
  rw [execPopa, accesses_still hs]

/-- POPA after PUSHA gives every register back. -/
theorem popa_pusha (hm : s.memOk = true) : Changes .popa (s.pushAll s.regs.pushaWords) s.regs s.flags := by
  have hwords {k : Nat} (hk : k < 8) := stackWord_pusha hs hm hk
  have hflags : (s.pushAll s.regs.pushaWords).flags = s.flags := by rw [(stores_pushAll hs _).frame]; rfl
  have hsp : s.regs.sp - BitVec.ofNat 16 (2 * s.regs.pushaWords.length) + 16 = s.regs.sp :=
    BitVec.sub_add_cancel s.regs.sp 16
  refine changes_update ((execPopa_still (still_pushAll hs _)).trans ?_)
  simp (disch := decide) only [hwords, pushAll_regs, hsp, ← hflags]
  rfl

end

/-- Settles O54: PUSHA is eight pushes, POPA takes the words of the stack by their places. -/
theorem pushaPopa : Obligations.PushaPopa := by
  unfold Obligations.PushaPopa
  intro s hs word
  refine ⟨fun hm => ⟨s.pushAll s.regs.pushaWords, pusha_effect hs, ?words⟩, ?popa⟩
  case words =>
    have hword (k : Fin 8) := read16_pusha hs hm k.isLt
    exact ⟨hword 7, hword 6, hword 5, hword 4, hword 3, hword 2, hword 1, hword 0, popa_pusha hs hm⟩
  case popa =>
    have hword (k : Nat) : s.stackWord k = word s (2 * k) := stackWord_still hs k
    refine changes_update ((execPopa_still hs).trans ?_)
    simp only [hword, Nat.reduceMul]

end Sys2Proof.Machine
end

section
/-! SUPPORT. The bit scans and bit tests of the 80386 (48_80386, R470 to R476): what a search through the bits of a word
finds, and what each of the three changes does to each bit. -/

namespace Sys2Proof.Machine

/-! ## BSF and BSR -/

/-- The upward search stops at a set bit with none below it. -/
theorem lowestBit_eq {v : Word} {k : Nat} (hset : v.getLsbD k = true) (hbelow : ∀ m, m < k → v.getLsbD m = false)
    {n : Nat} (hn : n ≤ 16) (hstart : 16 - n ≤ k) : lowestBit v n = k := by
  have hk : k < 16 := BitVec.lt_of_getLsbD hset
  induction n with
  | zero => omega
  | succ n ih =>
    rw [lowestBit]
    by_cases hhere : k = 15 - n
    · rw [← hhere, if_pos hset]
    · rw [hbelow (15 - n) (by omega), if_neg Bool.false_ne_true]
      exact ih (by omega) (by omega)

/-- The downward search stops at a set bit with none above it. -/
theorem highestBit_eq {v : Word} {k : Nat} (hset : v.getLsbD k = true) (habove : ∀ m, k < m → v.getLsbD m = false)
    {n : Nat} (hstart : k < n) : highestBit v n = k := by
  induction n with
  | zero => omega
  | succ n ih =>
    rw [highestBit]
    by_cases hhere : k = n
    · rw [← hhere, if_pos hset]
    · rw [habove n (by omega), if_neg Bool.false_ne_true]
      exact ih (by omega)

section
variable {i : Instr} {s : State} {r : Bits3} {v : Word} {position : Nat} (hi : exec i s = .next (s.scan r v position))
include hi

theorem changes_scan_of_zero (hv : v = 0) : Changes i s s.regs { s.flags with ZF := s.cfg.bsxZfWhenZero } :=
  changes_update (hi.trans (by rw [State.scan, if_pos hv]; rfl))

/-- A scan of a word with a bit set (R470). -/
theorem changes_scan_of_bit {k : Nat} (hset : v.getLsbD k = true) (hpos : position = k) :
    Changes i s (s.regs.set16 r (BitVec.ofNat 16 k)) { s.flags with ZF := !s.cfg.bsxZfWhenZero } := by
  have hv : v ≠ 0 := by
    rintro rfl
    exact Bool.false_ne_true (BitVec.getLsbD_zero.symm.trans hset)
  exact changes_update (hi.trans (by rw [State.scan, if_neg hv, hpos]; rfl))

end

section
variable {s : State} (hs : s.still) (r : Bits3) (rm : Rm)
include hs

theorem execBsf_still : execBsf r rm s =
    .next (s.scan r (s.rmRead .word rm) (lowestBit (s.rmRead .word rm) 16)) := by
  rw [execBsf, rmAfter_still hs]

theorem execBsr_still : execBsr r rm s =
    .next (s.scan r (s.rmRead .word rm) (highestBit (s.rmRead .word rm) 16)) := by
  rw [execBsr, rmAfter_still hs]

end

/-- Settles O55: the two searches stop at the first set bit they meet. -/
theorem bitScanFindsBit : Obligations.BitScanFindsBit := by
  unfold Obligations.BitScanFindsBit
  intro s r rm k hs v
  have hbsf : exec (.bsf r rm) s = .next (s.scan r v (lowestBit v 16)) := execBsf_still hs r rm
  have hbsr : exec (.bsr r rm) s = .next (s.scan r v (highestBit v 16)) := execBsr_still hs r rm
  exact ⟨fun hv => ⟨changes_scan_of_zero hbsf hv, changes_scan_of_zero hbsr hv⟩,
    fun hset hbelow => changes_scan_of_bit hbsf hset (lowestBit_eq hset hbelow (Nat.le_refl 16) (Nat.zero_le k)),
    fun hset habove => changes_scan_of_bit hbsr hset (highestBit_eq hset habove (BitVec.lt_of_getLsbD hset))⟩

/-! ## BT, BTS, BTR, BTC -/

theorem getLsbD_bitMask (position m : Nat) : (bitMask position).getLsbD m = decide (m = position % 16) := by
  have hlt : position % 16 < 16 := Nat.mod_lt _ (by decide)
  rw [show bitMask position = BitVec.twoPow 16 (position % 16) from rfl, BitVec.getLsbD_twoPow, decide_eq_true hlt,
    Bool.true_and]
  exact decide_eq_decide.2 eq_comm

section
variable (d : Word) (position m : Nat)

/-- BTS sets the bit (R474). -/
theorem getLsbD_or_bitMask :
    (d ||| bitMask position).getLsbD m = if m = position % 16 then true else d.getLsbD m := by
  rw [BitVec.getLsbD_or, getLsbD_bitMask]
  split <;> simp [*]

/-- BTR clears the bit (R475). -/
theorem getLsbD_and_not_bitMask (hm : m < 16) :
    (d &&& ~~~bitMask position).getLsbD m = if m = position % 16 then false else d.getLsbD m := by
  rw [BitVec.getLsbD_and, BitVec.getLsbD_not, getLsbD_bitMask, decide_eq_true hm]
  split <;> simp [*]

/-- BTC inverts the bit (R476). -/
theorem getLsbD_xor_bitMask : (d ^^^ bitMask position).getLsbD m =
    if m = position % 16 then !d.getLsbD (position % 16) else d.getLsbD m := by
  rw [BitVec.getLsbD_xor, getLsbD_bitMask]
  split <;> simp [*]

end

section
variable {i : Instr} {s : State} (hs : s.still) {rm : Rm} {position : Nat}
include hs

/-- BT sets CF and nothing else (R473). -/
theorem changes_testBit (hi : exec i s = .next ((s.rmAfter .word rm).testBit (s.rmRead .word rm) position)) :
    Changes i s s.regs { s.flags with CF := (s.rmRead .word rm).getLsbD (position % 16) } :=
  changes_update (hi.trans (by rw [rmAfter_still hs]; rfl))

/-- BTS, BTR and BTC set CF and write the changed word (R474 to R476). -/
theorem writes_changeBit (hm : s.memOk = true) {change : Word → Word → Word}
    (hi : exec i s = .next (s.changeBit rm position change)) :
    Writes i s .word (s.place rm) (change (s.rmRead .word rm) (bitMask position))
      { s.flags with CF := (s.rmRead .word rm).getLsbD (position % 16) } := by
  refine writes_writePlace hs hm (d := s.draws) (hi.trans ?_)
  rw [State.changeBit, rmAfter_still hs, ← place_flags_draws s _ s.draws rm]
  rfl

/-- The four instructions with one position. -/
theorem bitTest_forms (hm : s.memOk = true) {bt bts btr btc : Instr}
    (hbt : exec bt s = .next ((s.rmAfter .word rm).testBit (s.rmRead .word rm) position))
    (hbts : exec bts s = .next (s.changeBit rm position fun d m => d ||| m))
    (hbtr : exec btr s = .next (s.changeBit rm position fun d m => d &&& ~~~m))
    (hbtc : exec btc s = .next (s.changeBit rm position fun d m => d ^^^ m)) :
    let v := s.rmRead .word rm
    let k := position % 16
    let f := { s.flags with CF := v.getLsbD k }
    let put (i : Instr) (new : Bool) : Prop :=
      ∃ x, Writes i s .word (s.place rm) x f ∧ ∀ m, m < 16 → x.getLsbD m = if m = k then new else v.getLsbD m
    Changes bt s s.regs f ∧ put bts true ∧ put btr false ∧ put btc (!v.getLsbD k) :=
  ⟨changes_testBit hs hbt,
    ⟨_, writes_changeBit hs hm hbts, fun m _ => getLsbD_or_bitMask _ position m⟩,
    ⟨_, writes_changeBit hs hm hbtr, getLsbD_and_not_bitMask _ position⟩,
    ⟨_, writes_changeBit hs hm hbtc, fun m _ => getLsbD_xor_bitMask _ position m⟩⟩

end

/-- Settles O56: the register and the immediate form are the same four operations, by the position of each. -/
theorem bitTestAndChange : Obligations.BitTestAndChange := by
  unfold Obligations.BitTestAndChange
  intro s rm r b hs hm v
  simp only [List.forall_mem_cons, List.not_mem_nil, false_implies, implies_true, and_true]
  exact ⟨bitTest_forms hs hm rfl rfl rfl rfl, bitTest_forms hs hm rfl rfl rfl rfl⟩

end Sys2Proof.Machine
end

section
/-! SUPPORT. The double-precision shifts of the 80386 (48_80386, R482 to R484): destination and source as one number of
32 bits. -/

namespace Sys2Proof.Machine

/-! ## The shifted number -/

theorem append_words_eq_ofNat (h l : Word) : (h ++ l : BitVec 32) = BitVec.ofNat 32 (h.toNat * 65536 + l.toNat) := by
  have hh := h.isLt
  have hl := l.isLt
  apply BitVec.eq_of_toNat_eq
  rw [BitVec.toNat_append, ← Nat.shiftLeft_add_eq_or_of_lt hl, Nat.shiftLeft_eq, BitVec.toNat_ofNat]
  omega

theorem getLsbD_eq_odd_quotient {n : Nat} (x : BitVec n) (k : Nat) :
    x.getLsbD k = decide (x.toNat / 2 ^ k % 2 = 1) := Nat.testBit_eq_decide_div_mod_eq

section
variable (d v : Word) {c : Nat}

/-- SHLD: the high word of the number shifted up, and the last bit that left the destination (R483). -/
theorem shldResult_eq (hc : c ≤ 16) : shldResult d v c =
    (BitVec.ofNat 16 ((d.toNat * 65536 + v.toNat) * 2 ^ c / 65536),
      decide (d.toNat * 2 ^ c / 65536 % 2 = 1)) := by
  have hlast : d.toNat * 2 ^ c / 65536 = d.toNat / 2 ^ (16 - c) := by
    have hpow : 65536 = 2 ^ (16 - c) * 2 ^ c := by rw [← pow_add, Nat.sub_add_cancel hc]; rfl
    rw [hpow, Nat.mul_div_mul_right _ _ (Nat.two_pow_pos c)]
  have hshift : (d ++ v : BitVec 32) <<< c = BitVec.ofNat 32 ((d.toNat * 65536 + v.toNat) * 2 ^ c) := by
    apply BitVec.eq_of_toNat_eq
    rw [append_words_eq_ofNat, BitVec.toNat_shiftLeft, Nat.shiftLeft_eq, BitVec.toNat_ofNat, BitVec.toNat_ofNat,
      Nat.mod_mul_mod]
  rw [shldResult, hshift, extractLsb'_ofNat (by decide), hlast, getLsbD_eq_odd_quotient,
    show (2 : Nat) ^ 16 = 65536 from rfl]

/-- SHRD: the low word of the number shifted down, and the last bit that left the destination (R484). -/
theorem shrdResult_eq : shrdResult d v c =
    (BitVec.ofNat 16 ((v.toNat * 65536 + d.toNat) / 2 ^ c), decide (d.toNat / 2 ^ (c - 1) % 2 = 1)) := by
  have hv := v.isLt
  have hd := d.isLt
  have hshift : (v ++ d : BitVec 32) >>> c = BitVec.ofNat 32 ((v.toNat * 65536 + d.toNat) / 2 ^ c) := by
    have hlt : v.toNat * 65536 + d.toNat < 2 ^ 32 := by omega
    apply BitVec.eq_of_toNat_eq
    rw [append_words_eq_ofNat, BitVec.toNat_ushiftRight, Nat.shiftRight_eq_div_pow, BitVec.toNat_ofNat,
      BitVec.toNat_ofNat, Nat.mod_eq_of_lt hlt, Nat.mod_eq_of_lt ((Nat.div_le_self ..).trans_lt hlt)]
  rw [shrdResult, hshift, extractLsb'_ofNat (by decide), pow_zero, Nat.div_one, getLsbD_eq_odd_quotient]

end

/-! ## The operation -/

/-- The count as a number (R482). -/
theorem doubleCount_eq (cnt : Byte) : doubleCount cnt = cnt.toNat % 32 := Nat.and_two_pow_sub_one_eq_mod cnt.toNat 5

/-- A meaning that ends in a write to the R/M operand, with the flags set and free values drawn after it. -/
theorem writes_rmWrite_drawn {i : Instr} {s : State} (hs : s.still) (hm : s.memOk = true) {w : Width} {rm : Rm}
    {v : BitVec w.bits} {f : Flags} {k : Nat} (hi : exec i s = .next (((s.rmWrite w rm v).setFlags f).drawn k)) :
    Writes i s w (s.place rm) v f := by
  refine writes_writePlace hs hm (d := s.draws + k) (hi.trans ?_)
  rw [← writePlace_flags_draws hs, ← State.writePlace_draws s w (s.place rm) v]
  rfl

/-- A double shift by a count below 32, whose result is the word `x` with CF `cf` where the count is 1 to 16. -/
theorem doubleShift_by_count {i : Instr} {s : State} (hs : s.still) (hm : s.memOk = true) {rm : Rm} {c x : Nat}
    {cf : Bool} {result : Word × Bool} (hi : exec i s = .next ((s.rmAfter .word rm).doubleShift rm c result))
    (hresult : c ≤ 16 → result = (BitVec.ofNat 16 x, cf)) :
    (c = 0 → exec i s = .next s) ∧
      (1 ≤ c → c ≤ 16 → ∃ o a, Writes i s .word (s.place rm) (wordOf (BitVec.ofNat 16 x))
        { resultFlags s.flags (wordOf (BitVec.ofNat 16 x)) with CF := cf, OF := o, AF := a }) ∧
      (17 ≤ c → ∃ x o sf z a p c, Writes i s .word (s.place rm) x (anyStatus s.flags o sf z a p c)) := by
  rw [rmAfter_still hs] at hi
  refine ⟨fun hc => ?nothing, fun hpos hc => ?shifted, fun hc => ?undefined⟩
  case nothing => rw [hi, State.doubleShift, if_pos hc]
  case shifted =>
    rw [State.doubleShift, if_neg (by omega), if_pos hc, hresult hc, szp_eq_resultFlags] at hi
    exact ⟨_, _, writes_rmWrite_drawn hs hm hi⟩
  case undefined =>
    rw [State.doubleShift, if_neg (by omega), if_neg (by omega)] at hi
    exact ⟨_, _, _, _, _, _, _, writes_rmWrite_drawn hs hm hi⟩

/-- Settles O57: the immediate form and the form by CL are one operation, by the count of each. -/
theorem doubleShiftByCount : Obligations.DoubleShiftByCount := by
  unfold Obligations.DoubleShiftByCount
  intro s rm r cnt hs hm d v put
  have hcl : doubleCount s.cl = (s.regs.get8 .b001).toNat % 32 := doubleCount_eq s.cl
  simp only [List.forall_mem_cons, List.not_mem_nil, false_implies, implies_true, and_true, ← hcl, ← doubleCount_eq]
  exact ⟨⟨doubleShift_by_count hs hm rfl (shldResult_eq _ _), doubleShift_by_count hs hm rfl (shldResult_eq _ _)⟩,
    doubleShift_by_count hs hm rfl fun _ => shrdResult_eq _ _,
    doubleShift_by_count hs hm rfl fun _ => shrdResult_eq _ _⟩

end Sys2Proof.Machine
end

section
/-! SUPPORT. Taking an interrupt (60_exceptions, R504, R505): three pushes, with the vector read between and after them;
and the request that is recognised at a boundary (R510, R511). -/

namespace Sys2Proof.Machine

/-! ## Words of memory -/

/-- With nothing from outside, a word read at a physical address is the two bytes there. -/
theorem memWord_congr {s t : State} (hs : s.still) (ht : t.still) (hcfg : t.cfg = s.cfg) {a : Nat}
    (hbytes : ∀ k, k < 2 → Memory.read t.mem ((a + k) % 2 ^ s.cfg.physBits) =
      Memory.read s.mem ((a + k) % 2 ^ s.cfg.physBits)) : t.memWord a = s.memWord a := by
  have hlow : t.memByte a = s.memByte a := by
    rw [memByte_still hs, memByte_still ht, hcfg]
    exact hbytes 0 (by decide)
  have hhigh : t.memByte (a + 1) = s.memByte (a + 1) := by
    rw [memByte_still hs, memByte_still ht, hcfg]
    exact hbytes 1 (by decide)
  rw [memWord_still hs, memWord_still ht, hlow, hhigh]

theorem memWord_of_mem_eq {s t : State} (hs : s.still) (ht : t.still) (hcfg : t.cfg = s.cfg) (hmem : t.mem = s.mem)
    (a : Nat) : t.memWord a = s.memWord a :=
  memWord_congr hs ht hcfg fun _ _ => by rw [hmem]

/-! ## The three pushes -/

/-- The words an interrupt leaves on the stack, the top first: the saved IP, CS and FLAGS (R505). -/
def State.entryWords (s : State) (r : Word) : List Word := [r, s.regs.cs, s.flagsImage]

/-- The state before the saved IP is pushed, in which the vector's CS is read. -/
def State.entryFirst (s : State) : State := (s.push s.flagsImage).push s.regs.cs

section
variable {s : State} (hs : s.still)
include hs

/-- The flags have no part in a push. -/
theorem push_setFlags (f : Flags) (v : Word) : (s.setFlags f).push v = (s.push v).setFlags f := by
  have hlowered : (s.setSp (s.regs.sp - 2)).still := hs
  have hwrite := writePlace_flags_draws hlowered .word (.mem s.regs.ss (s.regs.sp - 2)) v f s.draws
  have hpush : (s.setFlags f).push v = { s.push v with flags := f, draws := s.draws } := hwrite.symm
  rw [hpush, ← State.push_draws s v]
  rfl

/-- The state between the pushes is that of two pushes, with IF and TF cleared meanwhile. -/
theorem flagsPushed_push_cs : s.flagsPushed.push s.flagsPushed.regs.cs =
    s.entryFirst.setFlags { s.flags with IF := false, TF := false } := by
  rw [State.flagsPushed, State.push_flags, push_setFlags (still_push hs _), State.setFlags_regs, State.push_regs]
  rfl

theorem entryPushed_eq_pushAll (r : Word) : s.entryPushed r =
    (s.pushAll (s.entryWords r)).setFlags { s.flags with IF := false, TF := false } := by
  have hfirst : s.entryFirst.still := still_push (still_push hs _) _
  rw [State.entryPushed, flagsPushed_push_cs hs, push_setFlags hfirst]
  rfl

theorem memWord_setFlags (f : Flags) (a : Nat) : (s.setFlags f).memWord a = s.memWord a := by
  have hs' : (s.setFlags f).still := hs
  exact memWord_of_mem_eq hs hs' rfl rfl a

/-- The end of the entry: the pushes have changed SP and memory, the rest changes CS, IP, flags and hidden state. -/
theorem pushAll_entryWords_goFar (r : Word) (f : Flags) (seg off : Word) :
    (((((s.pushAll (s.entryWords r)).setFlags f).goFar seg off).setRun .running).setInhibit false) = { s with
      regs := { s.regs with sp := s.regs.sp - 6, cs := seg, ip := off }
      flags := f
      ctl := { s.ctl with run := .running, inhibit := false, stale := [] }
      mem := (s.pushAll (s.entryWords r)).mem } := by
  have hframe := (stores_pushAll hs (s.entryWords r)).frame
  generalize (s.pushAll (s.entryWords r)).mem = m at hframe ⊢
  rw [hframe]
  rfl

/-- The entry in full: SP below the three words, CS and IP from the vector, each read when R505 says. -/
theorem interrupt_eq (n : Byte) (r : Word) : s.interrupt n r = { s with
    regs := { s.regs with
      sp := s.regs.sp - 6
      cs := s.entryFirst.memWord (s.vector n + 2)
      ip := (s.pushAll (s.entryWords r)).memWord (s.vector n) }
    flags := { s.flags with IF := false, TF := false }
    ctl := { s.ctl with run := .running, inhibit := false, stale := [] }
    mem := (s.pushAll (s.entryWords r)).mem } := by
  have hfirst : s.entryFirst.still := still_push (still_push hs _) _
  have hall := still_pushAll hs (s.entryWords r)
  have hpushed := still_push (still_flagsPushed hs) s.flagsPushed.regs.cs
  have hvectorFirst : s.entryFirst.vector n = s.vector n := by simp [State.vector, State.entryFirst]
  have hvectorAll : (s.pushAll (s.entryWords r)).vector n = s.vector n := by
    rw [State.vector, (stores_pushAll hs (s.entryWords r)).cfg]; rfl
  have hvector (t : State) (f : Flags) : (t.setFlags f).vector n = t.vector n := rfl
  rw [State.interrupt, ← State.flagsPushed, accesses_still hpushed, ← State.entryPushed,
    accesses_still (still_entryPushed hs r), flagsPushed_push_cs hs, entryPushed_eq_pushAll hs, hvector, hvector,
    memWord_setFlags hfirst, memWord_setFlags hall, hvectorFirst, hvectorAll, pushAll_entryWords_goFar hs]

/-- A word of memory outside the bytes pushed is as it was. -/
theorem memWord_pushAll {vs : List Word} {a : Nat}
    (houtside : ∀ k, k < 2 → (a + k) % 2 ^ s.cfg.physBits ∉
      bytesAt s.cfg s.regs.ss (s.regs.sp - BitVec.ofNat 16 (2 * vs.length)) (2 * vs.length)) :
    (s.pushAll vs).memWord a = s.memWord a :=
  have hstores := stores_pushAll hs vs
  memWord_congr hs (still_pushAll hs vs) hstores.cfg fun k hk => hstores.same _ (houtside k hk)

section
variable (n : Byte) (r : Word)

theorem interrupt_mem : (s.interrupt n r).mem = (s.pushAll (s.entryWords r)).mem := by rw [interrupt_eq hs]

theorem interrupt_cfg : (s.interrupt n r).cfg = (s.pushAll (s.entryWords r)).cfg := by
  rw [interrupt_eq hs, (stores_pushAll hs _).cfg]; rfl

theorem still_interrupt : (s.interrupt n r).still := by rw [interrupt_eq hs]; exact hs

/-- CS is read from the vector before the saved IP is pushed (R505). -/
theorem interrupt_cs : (s.interrupt n r).regs.cs = s.entryFirst.memWord (s.vector n + 2) := by rw [interrupt_eq hs]

/-- IP is read from the vector after the saved IP is pushed (R505). -/
theorem interrupt_ip : (s.interrupt n r).regs.ip = (s.interrupt n r).memWord (s.vector n) := by
  rw [memWord_of_mem_eq (still_pushAll hs _) (still_interrupt hs n r) (interrupt_cfg hs n r) (interrupt_mem hs n r),
    interrupt_eq hs]

theorem sameBytes_interrupt :
    SameBytes s (s.interrupt n r) (bytesAt s.cfg s.regs.ss (s.regs.sp - 6) 6) := by
  intro a ha
  rw [interrupt_mem hs]
  exact (stores_pushAll hs (s.entryWords r)).same a ha

theorem memOk_interrupt (hm : s.memOk = true) : (s.interrupt n r).memOk = true := by
  rw [State.memOk, interrupt_mem hs, interrupt_cfg hs]
  exact pushAll_memOk hs hm _

/-- The words pushed, by their distance from the new SP. -/
theorem read16_interrupt (hm : s.memOk = true) {k : Nat} (hk : k < 3) :
    (s.interrupt n r).read16 s.regs.ss (s.regs.sp - 6 + BitVec.ofNat 16 (2 * k)) = (s.entryWords r)[k]'hk := by
  have hall := still_pushAll hs (s.entryWords r)
  have hword := stackWord_pushAll hs hm (vs := s.entryWords r) (by decide : 3 < 32768) hk
  rw [stackWord_still hall, pushAll_regs] at hword
  rw [read16_congr hall (still_interrupt hs n r) (interrupt_mem hs n r) (interrupt_cfg hs n r)]
  exact hword

/-- A vector that the pushes do not touch gives CS and IP as it was before them. -/
theorem interrupt_vector_outside (houtside : ∀ k, k < 4 → (s.vector n + k) % 2 ^ s.cfg.physBits ∉
      bytesAt s.cfg s.regs.ss (s.regs.sp - 6) 6) :
    (s.interrupt n r).regs.cs = s.memWord (s.vector n + 2) ∧ (s.interrupt n r).regs.ip = s.memWord (s.vector n) := by
  have hbytes := bytesAt_sub_words s.cfg s.regs.ss s.regs.sp 2
  rw [interrupt_cs hs, interrupt_eq hs]
  refine ⟨memWord_pushAll hs (vs := [s.regs.cs, s.flagsImage]) fun k hk hin => ?cs,
    memWord_pushAll hs fun k hk => houtside k (by omega)⟩
  case cs =>
    rw [Nat.add_assoc] at hin
    exact houtside (2 + k) (by omega) (hbytes ▸ List.mem_append_right _ hin)

end

end

/-- Settles O14: the entry is three pushes with the vector read between and after them. -/
theorem interruptEntry : Obligations.InterruptEntry := by
  unfold Obligations.InterruptEntry
  intro s n r hs hm
  have hword {k : Nat} (hk : k < 3) := read16_interrupt hs n r hm hk
  have hflags : s.regs.sp - 6 + BitVec.ofNat 16 (2 * 2) = s.regs.sp - 2 := by bv_omega
  have hcs : s.regs.sp - 6 + BitVec.ofNat 16 (2 * 1) = s.regs.sp - 4 := by bv_omega
  have hip : s.regs.sp - 6 + BitVec.ofNat 16 (2 * 0) = s.regs.sp - 6 := BitVec.add_zero _
  refine ⟨hflags ▸ hword (k := 2) (by decide), hcs ▸ hword (k := 1) (by decide), hip ▸ hword (k := 0) (by decide),
    interrupt_cs hs n r, interrupt_ip hs n r, memOk_interrupt hs n r hm, sameBytes_interrupt hs n r,
    interrupt_vector_outside hs n r, ?frame⟩
  case frame => rw [interrupt_eq hs]

/-! ## Requests -/

/-- No repetition is suspended that takes its single-step trap first. -/
theorem not_trapFirst {s : State} (h : s.ctl.resume = none ∨ s.flags.TF = false) :
    (s.ctl.resume.isSome && s.flags.TF) = false := by
  rcases h with h | h <;> simp [h]

section
variable {s : State} (hinhibit : s.ctl.inhibit = false) (hboundary : s.ctl.pfx = Prefixes.empty ∨ s.underWay = true)
include hinhibit hboundary

/-- A boundary at which requests are recognised (R510). -/
theorem recognisable : (s.ctl.inhibit || !s.atBoundary) = false := by
  rcases hboundary with hpfx | hunder <;> simp [State.atBoundary, *]

/-- The non-maskable request comes first (R511). -/
theorem recognise_nmi (htrap : s.ctl.resume = none ∨ s.flags.TF = false) (hnmi : s.env.nmiPending = true) :
    s.recognise =
      some ({ s.abandon with env := { s.env with nmiPending := false } }.interrupt 2 s.regs.ip) := by
  simp [State.recognise, recognisable hinhibit hboundary, not_trapFirst htrap, hnmi]

/-- The maskable request is recognised where IF is set and no other is pending (R511). -/
theorem recognise_intr (htrap : s.ctl.resume = none ∨ s.flags.TF = false) (hnmi : s.env.nmiPending = false)
    (hintr : s.env.intrPending = true) (hif : s.flags.IF = true) :
    s.recognise = some ({ s.abandon with
      env := { s.env with intrPending := false } }.interrupt s.env.intrType s.regs.ip) := by
  simp [State.recognise, recognisable hinhibit hboundary, not_trapFirst htrap, hnmi, hintr, hif]

/-- A repetition that a request suspends takes its single-step trap first (R512; log 19). -/
theorem recognise_trap (hresume : s.ctl.resume.isSome = true) (htf : s.flags.TF = true)
    (hrequest : s.env.nmiPending = true ∨ (s.env.intrPending = true ∧ s.flags.IF = true)) :
    s.recognise = some (s.abandon.interrupt 1 s.regs.ip) := by
  have hdue : (s.env.nmiPending || (s.env.intrPending && s.flags.IF)) = true := by simpa using hrequest
  simp [State.recognise, recognisable hinhibit hboundary, hdue, hresume, htf]

end

/-- Settles O17: the request that is recognised at the boundary, and the end of the step. -/
theorem requestTaken : Obligations.RequestTaken := by
  unfold Obligations.RequestTaken
  intro s u freed hreset hinhibit hboundary
  obtain ⟨htaken, -⟩ := step_cases hreset
  exact ⟨fun htrap => ⟨fun hnmi => htaken _ (recognise_nmi hinhibit hboundary htrap hnmi),
      fun hnmi hintr hif => htaken _ (recognise_intr hinhibit hboundary htrap hnmi hintr hif)⟩,
    fun hresume htf hrequest => htaken _ (recognise_trap hinhibit hboundary hresume htf hrequest)⟩

end Sys2Proof.Machine
end

section
/-! SUPPORT. The reset event (70_reset_and_hazards, R540, R541), and the end of a step in which it has come: what it has
put in place stays, and the stores of other agents happen. -/

namespace Sys2Proof.Machine

/-! ## What reset has put in place -/

theorem afterReset_resetEvent {s t : State} (hcfg : t.cfg = s.cfg) (hio : t.io = s.io) : AfterReset s t.resetEvent := by
  rw [AfterReset, ← hcfg, ← hio]
  exact ⟨⟨_, rfl⟩, rfl, rfl, rfl, rfl, rfl, rfl, rfl, rfl, rfl, rfl, rfl, rfl⟩

/-- Other agents' stores leave it in place. -/
theorem AfterReset.agentStores {s t : State} (h : AfterReset s t) (l : List Host.Cell) :
    AfterReset s (t.agentStores l) := by
  rw [agentStores_eq, agentStores_env]
  exact h

/-- The bus events of the rest of the step leave it in place; another reset puts the same in place again. -/
theorem AfterReset.drain {s t : State} (h : AfterReset s t) (l : List BusEvent) : AfterReset s (t.drain l) := by
  induction l generalizing t with
  | nil => exact h
  | cons x l ih =>
    cases x with
    | stores cells => exact ih (h.agentStores cells)
    | reset =>
      obtain ⟨-, -, -, -, -, -, -, -, -, -, -, hio, hcfg⟩ := h
      exact ih (afterReset_resetEvent hcfg hio)

/-! ## The inputs to come and memory -/

theorem agentStores_inputs (t : State) (l : List Host.Cell) : (t.agentStores l).env.inputs = t.env.inputs := by
  rw [agentStores_env]

theorem drain_inputs (t : State) (l : List BusEvent) : (t.drain l).env.inputs = t.env.inputs := by
  induction l generalizing t with
  | nil => rfl
  | cons x l ih =>
    cases x with
    | stores cells => rw [State.drain, ih, agentStores_inputs]
    | reset => rw [State.drain, ih]; rfl

/-- Stores on a free bus after others that happen or wait: in either case memory has them in order (log 25). -/
theorem storedBy_agentStores (t : State) (l k : List Host.Cell) :
    storedBy t.cfg (t.agentStores l).mem ((t.agentStores l).env.held ++ k) =
      storedBy t.cfg t.mem (t.env.held ++ l ++ k) := by
  cases hl : t.ctl.busLock with
  | true => rw [agentStores_locked hl]
  | false => rw [agentStores_free hl]; exact (storedBy_append _ _ _ k).symm

/-- Where the bus is free, bus events change memory by the stores they list, after those that waited. -/
theorem drain_agentStores_mem {t : State} (hfree : t.ctl.busLock = false) (l : List BusEvent) :
    ((t.drain l).agentStores []).mem = storedBy t.cfg t.mem (t.env.held ++ cellsOf l) := by
  induction l generalizing t with
  | nil => rw [State.drain, agentStores_free hfree]; rfl
  | cons x l ih =>
    cases x with
    | stores cells =>
      rw [State.drain, ih (by rwa [State.agentStores_ctl]), State.agentStores_cfg, storedBy_agentStores, cellsOf,
        List.append_assoc]
    | reset => exact ih (t := t.resetEvent) rfl

/-- Stores on a free bus after an input's own. -/
theorem storedBy_deliver {s : State} {e : Input} {rest : List Input} (h : s.env.inputs = e :: rest)
    (l : List Host.Cell) : storedBy s.cfg s.deliver.mem (s.deliver.env.held ++ l) =
      storedBy s.cfg s.mem (s.env.held ++ e.writes ++ l) := by
  rw [deliver_env h, deliver_mem h]
  exact storedBy_agentStores s e.writes l

/-- The end of a step from the reset event on, with the bus events `l` to come. -/
theorem afterReset_settled {s t : State} (hcfg : t.cfg = s.cfg) (hio : t.io = s.io) (l : List BusEvent) :
    AfterReset s ((t.resetEvent.drain l).agentStores []) ∧
      ((t.resetEvent.drain l).agentStores []).env.inputs = t.env.inputs ∧
      ((t.resetEvent.drain l).agentStores []).mem = storedBy s.cfg t.mem (t.env.held ++ cellsOf l) := by
  refine ⟨((afterReset_resetEvent hcfg hio).drain l).agentStores [], ?inputs, ?mem⟩
  case inputs => rw [agentStores_inputs, drain_inputs]; rfl
  case mem => rw [drain_agentStores_mem (t := t.resetEvent) rfl, ← hcfg]; rfl

/-- Settles O13: from the reset event on nothing but the stores of other agents and further resets happen. -/
theorem resetEvent : Obligations.ResetEvent := by
  unfold Obligations.ResetEvent
  refine ⟨fun s e rest hinputs hreset => ?before, fun t rest hbus => ?within⟩
  case before =>
    obtain ⟨-, -, -, hio, -, -, hcfg⟩ := deliver_frame s
    have henv := deliver_env hinputs
    have hbus : s.deliver.env.bus = e.bus := by rw [henv]
    have hstep : step s = .next s.deliver.resetEvent.settle := by
      rw [step, State.machineStep, State.respond, resetRequested_cons hinputs, hreset]
      rfl
    have hsettle : s.deliver.resetEvent.settle =
        (({ s.deliver with env := { s.deliver.env with bus := [] } }.resetEvent).drain e.bus).agentStores [] := by
      rw [← hbus]; rfl
    obtain ⟨hafter, hrest, hmem⟩ := afterReset_settled (s := s)
      (t := { s.deliver with env := { s.deliver.env with bus := [] } }) hcfg hio e.bus
    rw [← hsettle] at hafter hrest hmem
    exact ⟨_, hstep, hafter, hrest.trans (by rw [henv]), hmem.trans (storedBy_deliver hinputs _)⟩
  case within =>
    have hsettle : t.settle =
        (({ t with env := { t.env with bus := [] } }.resetEvent).drain rest).agentStores [] := by
      rw [State.settle, hbus]; rfl
    rw [hsettle]
    exact afterReset_settled (t := { t with env := { t.env with bus := [] } }) rfl rfl rest

end Sys2Proof.Machine
end
